-- ==== Sys2Proof/Word.lean ====
section
/-! DEFINITION. The words of the JL-64: bytes, keys, salts, nonces and tags, link and root entry numbers,
and the 64-entry tables every block keeps one of per link or per root entry. -/

namespace Sys2Proof

/-- One byte of a frame or of a record. -/
abbrev Byte := BitVec 8

/-- A 256-bit key: a traffic key (R17), a root key (R72) or the enrolment key (R73). -/
abbrev Key := BitVec 256

/-- The 32-bit salt of a key slot (R17). -/
abbrev Salt := BitVec 32

/-- The 96-bit nonce of the record cipher (R5). -/
abbrev Nonce := BitVec 96

/-- The 128-bit tag of the record cipher (R5). -/
abbrev RecordTag := BitVec 128

/-- What one protection was made under and of: the key, the nonce, the 12-byte header as sent and the body (R5). -/
structure Protection where
  key : Key
  nonce : Nonce
  header : List Byte
  body : List Byte
deriving DecidableEq, Repr

/-- A link number, 0–63 (section 4.3 of the manual's introduction). -/
abbrev Link := Fin 64

/-- A root entry number, 0–63 (R72). -/
abbrev EntryNo := Fin 64

/-- The top of every 32-bit counter, 4,294,967,295. -/
abbrev maxWord : Nat := 4294967295

/-- The top of every 16-bit counter, 65,535. -/
abbrev maxHalf : Nat := 65535

/-- Sixty-four like records, numbered 0 to 63. -/
abbrev Table (α : Type) := Vector α 64

/-- The record of number `i`. -/
def Table.look {α : Type} (t : Table α) (i : Fin 64) : α := t.get i

/-- The table with the record of number `i` replaced. -/
def Table.put {α : Type} (t : Table α) (i : Fin 64) (a : α) : Table α := t.set i.val a i.isLt

/-- The table that holds the same record under every number. -/
def Table.filled {α : Type} (a : α) : Table α := Vector.replicate 64 a

/-- Every record changed by the same function. -/
def Table.each {α β : Type} (f : α → β) (t : Table α) : Table β := Vector.map f t

/-- How many records satisfy `p`. -/
def Table.count {α : Type} (p : α → Bool) (t : Table α) : Nat := t.toList.countP p

@[simp] theorem Table.look_put_same {α : Type} (t : Table α) (i : Fin 64) (a : α) :
    (t.put i a).look i = a := by
  simp [Table.look, Table.put, Vector.get_eq_getElem]

@[simp] theorem Table.look_put_ne {α : Type} (t : Table α) (i j : Fin 64) (a : α) (h : j ≠ i) :
    (t.put i a).look j = t.look j := by
  have h' : i.val ≠ j.val := fun e => h (Fin.ext e.symm)
  simp [Table.look, Table.put, Vector.get_eq_getElem, Vector.getElem_set_ne, h']

theorem Table.look_put {α : Type} (t : Table α) (i j : Fin 64) (a : α) :
    (t.put i a).look j = if j = i then a else t.look j := by
  by_cases h : j = i
  · subst h; simp
  · simp [h]

@[simp] theorem Table.look_filled {α : Type} (a : α) (i : Fin 64) : (Table.filled a).look i = a := by
  simp [Table.look, Table.filled, Vector.get_eq_getElem]

@[simp] theorem Table.look_each {α β : Type} (f : α → β) (t : Table α) (i : Fin 64) :
    (t.each f).look i = f (t.look i) := by
  simp [Table.look, Table.each, Vector.get_eq_getElem]

@[ext] theorem Table.ext_look {α : Type} {t u : Table α} (h : ∀ i, t.look i = u.look i) : t = u := by
  apply Vector.ext
  intro i hi
  simpa [Table.look, Vector.get_eq_getElem] using h ⟨i, hi⟩

end Sys2Proof
end

