-- ==== Sys2Proof/Syntax.lean ====
section
/-! DEFINITION. The commands of the JL-64: one constructor for each row of spec/opcode_table.json. A row that
the host of the part writes as a request stands here as the TAKING of that request from the head of the request
queue (R161); its operands travel in the request's body (R173), which the queue holds. -/

namespace Sys2Proof

/-- The lead byte of a write transaction, in which a request frame is shifted in (R157). -/
abbrev writeLead : Byte := 0xA6

/-- The lead byte of a read transaction, in which an output frame is shifted out (R157). -/
abbrev readLead : Byte := 0x59

/-- The two cipher lanes of the record engine, which are alike (R57). -/
inductive Lane where
  | a
  | b
deriving DecidableEq, Repr

/-- The operations and events of the part, one constructor for each row of the table. -/
inductive Instr where
  /-- FRAME_ARRIVAL (R157, R160): a transaction ends in which these bytes were shifted in, the lead byte first, 0xA6 for
  a write. -/
  | frameArrival (bytes : List Byte)
  /-- READ_LEAD_BYTE (R157, R163): the lead byte of a read transaction, 0x59, has been received. -/
  | readLeadByte
  /-- READ_END (R163): a read transaction ends in which `shifted` bytes followed the lead byte. -/
  | readEnd (shifted : Nat)
  /-- RESTART (R166): a RESTART frame that passes its frame checks arrives; its body is not examined. -/
  | restart
  /-- RESET_ASSERT (R168): the reset input falls. -/
  | resetAssert
  /-- RESET_RELEASE (R167): the reset input returns high after being held low. -/
  | resetRelease
  /-- POWER_ON (R167): the supply rises into its operating range. -/
  | powerOn
  /-- POWER_LOSS (R86): the supply is lost. -/
  | powerLoss
  /-- HELLO (R164) is taken from the head of the request queue. -/
  | hello
  /-- STATUS (R165) is taken. -/
  | status
  /-- UNKNOWN_KIND (R161): a request of none of the twenty kinds is taken by the port. -/
  | unknownKind
  /-- ROOT-LOAD (R75, R76) is taken. -/
  | rootLoad
  /-- ROOT-ERASE (R77) is taken. -/
  | rootErase
  /-- ROOT-READ (R78) is taken. -/
  | rootRead
  /-- ATTACH (R117, R118) is taken. -/
  | attach
  /-- DETACH (R119) is taken. -/
  | detach
  /-- POLICY (R120, R121) is taken. -/
  | policy
  /-- LINK-READ (R122) is taken. -/
  | linkRead
  /-- KEY-READ (R33) is taken. -/
  | keyRead
  /-- RENEW (R108) is taken. -/
  | renew
  /-- ENCIPHER (R59) is taken. -/
  | encipher
  /-- DECIPHER (R61) is taken. -/
  | decipher
  /-- FAULT-READ (R150) is taken. -/
  | faultRead
  /-- FAULT-CLEAR (R151) is taken. -/
  | faultClear
  /-- FAULT-ENABLE (R153) is taken. -/
  | faultEnable
  /-- COUNTER-SET (R154) is taken. -/
  | counterSet
  /-- NOTICE-MODE (R149) is taken. -/
  | noticeMode
  /-- LOG-READ (R156) is taken. -/
  | logRead
  /-- TICK (R167): one tick of 100 ms of the time base. -/
  | tick
  /-- GRACE_EXPIRY (R26): the grace timer of the link's PREVIOUS slot expires. -/
  | graceExpiry (link : Link)
  /-- OFFER_TIMER_EXPIRY (R95): the offer timer of the hub link expires. -/
  | offerTimerExpiry (link : Link)
  /-- ASK_TIMER_EXPIRY (R98): the ask timer of the shop link expires. -/
  | askTimerExpiry (link : Link)
  /-- REST_TIMER_EXPIRY (R102): the rest timer of the link expires. -/
  | restTimerExpiry (link : Link)
  /-- RENEWAL_TIMER_EXPIRY (R107): the renewal timer of the link expires. -/
  | renewalTimerExpiry (link : Link)
  /-- SILENCE_EXPIRY (R130): the silence timer of the link expires. -/
  | silenceExpiry (link : Link)
  /-- BEAT_EXPIRY (R133): the beat timer of the link expires. -/
  | beatExpiry (link : Link)
  /-- PREPARING_OFFER_REQUEST (R93): a hub context in PREPARING makes its request of this tick. -/
  | preparingOfferRequest (link : Link)
  /-- ASKING_ASK_REQUEST (R97): a shop context in ASKING makes its request of this tick. -/
  | askingAskRequest (link : Link)
  /-- RETRY_OWED_REQUEST (R95, R98): a context with the retry-owed mark makes its request of this tick. -/
  | retryOwedRequest (link : Link)
  /-- CONFIRM_BEAT_REQUEST (R104): a hub with the confirm-owed mark makes its request of this tick. -/
  | confirmBeatRequest (link : Link)
  /-- GRANT (R58): the arbiter hands this free lane to the next eligible job. -/
  | grant (lane : Lane)
  /-- ENCIPHER_COMPLETION (R60): the ENCIPHER job in this lane completes. -/
  | encipherCompletion (lane : Lane)
  /-- TRAFFIC_DECIPHER_COMPLETION (R62): the traffic DECIPHER job in this lane completes. -/
  | trafficDecipherCompletion (lane : Lane)
  /-- ROOT_DECIPHER_COMPLETION (R63): the root DECIPHER job in this lane completes. -/
  | rootDecipherCompletion (lane : Lane)
  /-- CONTROL_JOB_COMPLETION (R66): the control job in this lane completes. -/
  | controlJobCompletion (lane : Lane)
  /-- NV_WRITE_START (R84): the memory is free and the write of the head entry starts. -/
  | nvWriteStart
  /-- NV_WRITE_COMPLETION (R85): the write in progress completes. -/
  | nvWriteCompletion
deriving DecidableEq, Repr

end Sys2Proof
end

