-- ==== Sys2Proof/WellFormed.lean ====
section
/-! DEFINITION. Which command terms stand for an event of the part. Link, entry and lane numbers are bounded by
their types; what is left to check is that a frame arrival is a write transaction with a frame byte. -/

namespace Sys2Proof

/-- A write transaction that ends after its lead byte delivers no frame, nor does a transaction with another lead byte
(R157), so FRAME_ARRIVAL carries the lead byte 0xA6 and at least one byte behind it (R160). Every other term of `Instr`
is an event of the part. -/
def Instr.wellFormed : Instr → Bool
  | .frameArrival bytes => decide (bytes.head? = some writeLead) && decide (2 ≤ bytes.length)
  | .readLeadByte => true
  | .readEnd _ => true
  | .restart => true
  | .resetAssert => true
  | .resetRelease => true
  | .powerOn => true
  | .powerLoss => true
  | .hello => true
  | .status => true
  | .unknownKind => true
  | .rootLoad => true
  | .rootErase => true
  | .rootRead => true
  | .attach => true
  | .detach => true
  | .policy => true
  | .linkRead => true
  | .keyRead => true
  | .renew => true
  | .encipher => true
  | .decipher => true
  | .faultRead => true
  | .faultClear => true
  | .faultEnable => true
  | .counterSet => true
  | .noticeMode => true
  | .logRead => true
  | .tick => true
  | .graceExpiry _ => true
  | .offerTimerExpiry _ => true
  | .askTimerExpiry _ => true
  | .restTimerExpiry _ => true
  | .renewalTimerExpiry _ => true
  | .silenceExpiry _ => true
  | .beatExpiry _ => true
  | .preparingOfferRequest _ => true
  | .askingAskRequest _ => true
  | .retryOwedRequest _ => true
  | .confirmBeatRequest _ => true
  | .grant _ => true
  | .encipherCompletion _ => true
  | .trafficDecipherCompletion _ => true
  | .rootDecipherCompletion _ => true
  | .controlJobCompletion _ => true
  | .nvWriteStart => true
  | .nvWriteCompletion => true

end Sys2Proof
end

