-- ==== Sys2Proof/Config.lean ====
section
/-! DEFINITION. What a part has fixed at manufacture, what its random source and its cipher produce, and the
choices the manual leaves open. Each is an opaque constant without a body: nothing in Lean can evaluate it, and a
statement about the machine holds whatever it is. The sizes of the part's stores stand here as numbers. -/

namespace Sys2Proof

/-- The enrolment key, unique to each part and fixed at manufacture (R73). DESIGN CHOICE, safe
(notes/assumptions/5.md). -/
opaque Config.enrolmentKey : Key

/-- The serial number, fixed at manufacture (R73). -/
opaque Config.serialNumber : BitVec 32

/-- The revision, fixed at manufacture (R73). -/
opaque Config.revision : BitVec 8

/-- The key the on-chip random source gives at its n-th draw (R21). A free value
(DESIGN CHOICE, safe: notes/assumptions/6.md). -/
opaque Config.randomKey : Nat → Key

/-- The salt the on-chip random source gives at its n-th draw (R21). A free value
(DESIGN CHOICE, safe: notes/assumptions/6.md). -/
opaque Config.randomSalt : Nat → Salt

/-- The record cipher on payloads of n bytes under a key and a nonce: a permutation of the payloads of that
length, so that enciphering adds no bytes and deciphering undoes it (R1, R5). Its inner construction is not
described, and nothing else of it is known (DEDUCED, safe: notes/assumptions/7.md). -/
opaque Config.cipher : (n : Nat) → Key → Nonce → Equiv.Perm (Vector Byte n)

/-- The tag over a header as sent and a body, under a key and a nonce (R5). -/
opaque Config.tagOf : Key → Nonce → List Byte → List Byte → RecordTag

/-- The protection outside this part that a tag comes from, if there is one: the part relies on the cipher to let a
record verify only if it was protected so (R5). Which records the peers and the makers of wrapped keys have protected is
not known (DEDUCED: notes/assumptions/7.md). -/
opaque Config.origin : RecordTag → Option Protection

/-- Which of the orders or images the manual leaves open comes about at the n-th such choice
(R86, R142, R146, R168). A free value (DESIGN CHOICE, safe: notes/assumptions/8.md). -/
opaque Config.freeChoice : Nat → Nat

/-- The job pool holds at most 32 jobs (R52). -/
abbrev Config.poolSize : Nat := 32

/-- Host jobs occupy at most 28 entries of the pool (R52). -/
abbrev Config.hostShare : Nat := 28

/-- The request queue holds at most 16 requests (R161). -/
abbrev Config.requestQueueSize : Nat := 16

/-- Request-owned output slots (R162). -/
abbrev Config.requestSlots : Nat := 32

/-- Unsolicited output slots (R162). -/
abbrev Config.unsolicitedSlots : Nat := 16

/-- Entries of the fault log (R155). -/
abbrev Config.logSize : Nat := 32

/-- The longest frame's length field (R159). -/
abbrev Config.maxFrameLength : Nat := 1094

/-- The largest payload of a record (R1). -/
abbrev Config.maxPayload : Nat := 1024

end Sys2Proof
end

