-- ==== Sys2Proof/Machine/State.lean ====
section
/-! DEFINITION. Everything the manual gives the JL-64 to hold, block by block, as plain data; the reasons a step
can stop (none, but for a row without a meaning); and the part right after its first power-on. -/

namespace Sys2Proof.Machine

open Sys2Proof

/-- Why a step stops with a fault. It has no constructor: the manual describes no command after which the part
stops, so no meaning raises a fault and no claim can rest on one (safe). -/
inductive Fault where
deriving DecidableEq, Repr

/-- Why a step is refused. -/
inductive Refusal where
  /-- Raised by `exec`'s arm of a row of the opcode table that has no meaning yet (safe: nothing is claimed of it). -/
  | notModelled (mnemonic : String)
deriving DecidableEq, Repr

/-! ## Timers -/

/-- A timer of the part, a count of ticks (section 4.2). `expiring` is the remainder 1 at the tick on which it
would reach 0: the expiry is due at its block and has not been taken yet (DESIGN CHOICE: notes/assumptions/2.md). -/
inductive Timer where
  | stopped
  | running (remainder : Nat)
  | expiring
deriving DecidableEq, Repr

/-! ## Key table -/

/-- This part's role toward a shop (R72). -/
inductive Role where
  | hub
  | shop
deriving DecidableEq, Repr

/-- The parts a key slot can play in a link's key set (R17). -/
inductive SlotRole where
  | next
  | current
  | previous
deriving DecidableEq, Repr

/-- The inbound window of a slot (R46): H and the accepted set, kept in rising order. -/
structure Window where
  high : Nat
  seen : List Nat
deriving DecidableEq, Repr

/-- A key slot (R17). Its role is the place it has in the `KeySet`. -/
structure KeySlot where
  epoch : Nat
  key : Key
  salt : Salt
  wearLimit : Nat
  softThreshold : Nat
  outSequence : Nat
  protectedBlocks : Nat
  openedBlocks : Nat
  softCrossed : Bool
  window : Window
  creationTick : Nat
deriving DecidableEq, Repr

/-- The slots of one link and the grace timer of its PREVIOUS slot (R17, R19, R26). -/
structure KeySet where
  next : Option KeySlot
  current : Option KeySlot
  previous : Option KeySlot
  grace : Timer
deriving DecidableEq, Repr

/-! ## Record engine -/

/-- A job's copy of the slot it is bound to (R30). -/
structure SlotBinding where
  role : SlotRole
  epoch : Nat
  key : Key
  salt : Salt
deriving DecidableEq, Repr

/-- A root job's copy of its root entry's key, with the entry's number (R30). -/
structure RootBinding where
  entry : EntryNo
  key : Key
deriving DecidableEq, Repr

/-- The four plaintext fields of an OFFER (R13). -/
structure OfferText where
  epoch : Nat
  fresh : Bool
  key : Key
  salt : Salt
deriving DecidableEq, Repr

/-- The reasons of triggers and ASK records (R14, R90). -/
inductive Reason where
  | due
  | wear
  | spent
  | host
  | loss
  | start
deriving DecidableEq, Repr

/-- Where an outbound root job stands with its counter (R56): not yet first of its list and so not asked,
answered raising, reported ready, or taken at the grant. -/
inductive CounterClaim where
  | unasked
  | raising
  | ready
  | taken (counter : Nat)
deriving DecidableEq, Repr

/-- What a job is to do, with the fields R53 gives its kind. -/
inductive Work where
  | encipher (tag : Byte) (slot : SlotBinding) (sequence : Nat) (payload : List Byte)
  | beat (slot : SlotBinding) (sequence : Nat)
  | proof (slot : SlotBinding) (sequence : Nat)
  | offer (root : RootBinding) (text : OfferText) (counter : CounterClaim)
  | ask (root : RootBinding) (reason : Reason) (counter : CounterClaim)
  | decipherTraffic (tag : Byte) (slot : SlotBinding) (record : List Byte)
  | decipherRoot (tag : Byte) (root : RootBinding) (record : List Byte)
deriving DecidableEq, Repr

/-- The deciphered plaintext a HELD job keeps (R63). -/
inductive RootContent where
  | offer (text : OfferText)
  | ask (reason : Reason)
deriving DecidableEq, Repr

/-- The states of a job (R54); IN-LANE names the lane. -/
inductive JobState where
  | waiting
  | inLane (lane : Lane)
  | held (content : RootContent)
deriving DecidableEq, Repr

/-- A job of the pool (R53). -/
structure Job where
  link : Link
  work : Work
  state : JobState
deriving DecidableEq, Repr

/-! ## Root store -/

/-- What an occupied root entry holds (R72). -/
structure RootContents where
  shopNumber : BitVec 32
  role : Role
  key : Key
deriving DecidableEq, Repr

/-- The stored image of a root entry: its contents, the ceiling S and the in-counter I (R72). -/
structure RootImage where
  contents : Option RootContents
  ceiling : Nat
  inCounter : Nat
deriving DecidableEq, Repr

/-- A root entry: its stored image and the live view beside it (R72). -/
structure RootEntry where
  stored : RootImage
  contents : Option RootContents
  ceiling : Nat
  outCounter : Nat
  inCounter : Nat
  bound : Option Link
deriving DecidableEq, Repr

/-- The write in progress: its entry, the image taken at its start, and the entry's again mark (R84). -/
structure NvWrite where
  entry : EntryNo
  image : RootImage
  again : Bool
deriving DecidableEq, Repr

/-- A ROOT-LOAD or ROOT-ERASE reply that waits for a write of its entry; `covered` when the write in progress
started after the request was taken (R85). -/
structure RootReply where
  tag : Byte
  kind : Byte
  entry : EntryNo
  covered : Bool
deriving DecidableEq, Repr

/-- The part's identity (R73). -/
structure Identity where
  enrolmentKey : Key
  serialNumber : BitVec 32
  revision : Byte
deriving DecidableEq, Repr

/-! ## Renewal controller -/

/-- The states of a renewal context, of both roles (R88). -/
inductive RenewalState where
  | idle
  | preparing
  | offered
  | asking
  | asked
  | proved
  | resting
deriving DecidableEq, Repr

/-- A renewal context (R88). The step timer is the offer, ask or rest timer according to the state. `claimDue`
and `confirmDue` are the request of this tick of a waiting context and of a confirm-owed mark, not yet made
(R93, R97, R95, R104; notes/assumptions/2.md). -/
structure RenewalContext where
  state : RenewalState
  triesUsed : Nat
  stepTimer : Timer
  retryOwed : Bool
  dueMark : Bool
  renewalTimer : Timer
  roundReason : Option Reason
  lastReason : Option Reason
  lastAskReason : Option Reason
  confirmOwed : Bool
  claimDue : Bool
  confirmDue : Bool
deriving DecidableEq, Repr

/-! ## Link supervisor -/

/-- The duplicates policy (R48). -/
inductive Duplicates where
  | strict
  | tolerant
deriving DecidableEq, Repr

/-- The thirteen policy fields (R115). -/
structure Policy where
  lockIn : Nat
  lockOut : Nat
  silenceTicks : Nat
  beatTicks : Nat
  renewTicks : Nat
  wearLimit : Nat
  softEighths : Nat
  graceTicks : Nat
  offerTicks : Nat
  offerTries : Nat
  restTicks : Nat
  duplicates : Duplicates
  rekeyOnLoss : Bool
deriving DecidableEq, Repr

/-- The supervision states of an attached link (R113). -/
inductive Supervision where
  | keyless
  | hunt
  | up
  | failing
deriving DecidableEq, Repr

/-- The link table entry of an attached link (R113). -/
structure LinkEntry where
  state : Supervision
  rootEntry : EntryNo
  shopNumber : BitVec 32
  role : Role
  policy : Policy
  goodCount : Nat
  badCount : Nat
  beatTimer : Timer
  silenceTimer : Timer
deriving DecidableEq, Repr

/-! ## Fault monitor -/

/-- The thirteen kinds of fault (R135). -/
inductive FaultKind where
  | tag
  | replay
  | late
  | form
  | epoch
  | silent
  | loss
  | due
  | overdue
  | spent
  | renewFail
  | rootReplay
  | beatSkip
deriving DecidableEq, Repr

/-- A set of fault kinds, kind k at bit k (R170). -/
abbrev FaultSet := BitVec 13

/-- The occurrence that set the first flag since the flags were last empty (R137). -/
structure Capture where
  kind : FaultKind
  epoch : Option Nat
  sequence : Option Nat
  tick : Nat
deriving DecidableEq, Repr

/-- A fault counter: its source kind and its value (R137). -/
structure FaultCounter where
  source : FaultKind
  value : Nat
deriving DecidableEq, Repr

/-- A fault record (R137). -/
structure FaultRecord where
  flags : FaultSet
  enabled : FaultSet
  stamp : Nat
  capture : Option Capture
  counterA : FaultCounter
  counterB : FaultCounter
  noticeSent : Bool
deriving DecidableEq, Repr

/-- The notice mode (R148). -/
inductive NoticeMode where
  | all
  | none
  | low
  | high
  | one (link : Link)
deriving DecidableEq, Repr

/-- An entry of the fault log (R155). -/
structure LogEntry where
  tick : Nat
  link : Link
  kind : FaultKind
  epoch : Option Nat
  sequence : Option Nat
deriving DecidableEq, Repr

/-! ## Message port -/

/-- An admitted request (R160, R161). It holds its reserved request-owned slot by being in the queue. -/
structure Request where
  tag : Byte
  kind : Byte
  body : List Byte
deriving DecidableEq, Repr

/-- The two shares of the output slots (R162). -/
inductive Share where
  | requestOwned
  | unsolicited
deriving DecidableEq, Repr

/-- A frame that fills an output slot (R162). -/
structure OutFrame where
  share : Share
  tag : Byte
  kind : Byte
  body : List Byte
deriving DecidableEq, Repr

/-- The read transaction in progress: the bytes chosen at its lead byte, and whether they are the head frame of
the output queue or an EMPTY frame (R163). -/
structure Reading where
  bytes : List Byte
  isHead : Bool
deriving DecidableEq, Repr

/-- The three restart causes (R167). -/
inductive RestartCause where
  | power
  | pin
  | commanded
deriving DecidableEq, Repr

/-! ## The machine -/

/-- The state of the JL-64 and the queue of commands that wait for it. -/
structure State where
  /-- The commands that wait, first in, first out: the model's own. -/
  pending : List Instr
  /-- The supply is in its operating range (R167). -/
  powered : Bool
  /-- The reset input is held low (R168). -/
  resetLow : Bool
  /-- The supply is in its operating range and the part's start-up has not ended (R168). -/
  starting : Bool
  /-- The request queue of the message port (R161). -/
  requests : List Request
  /-- The output queue: the filled slots in the order they were filled (R162). -/
  output : List OutFrame
  /-- The read transaction in progress (R163). -/
  reading : Option Reading
  /-- The frame-error count (R160). -/
  frameErrors : Nat
  /-- The overrun count (R160). -/
  overruns : Nat
  /-- The FRESH mark (R158). -/
  fresh : Bool
  /-- The cause of the last restart (R167). -/
  cause : RestartCause
  /-- The job pool in acceptance order; the jobs of one link in this order are the link's job list (R52, R55). -/
  pool : List Job
  /-- The arbiter's pointer (R58). -/
  pointer : Link
  /-- The key slots of every link (R17). -/
  keys : Table KeySet
  /-- The root entries (R72). -/
  roots : Table RootEntry
  /-- The NV write queue, the entry in progress at its head (R84). -/
  nvQueue : List EntryNo
  /-- The NV write in progress (R84). -/
  nvWrite : Option NvWrite
  /-- The ROOT-LOAD and ROOT-ERASE replies that wait for a write, in the order the requests were taken (R85). -/
  rootReplies : List RootReply
  /-- The part's identity (R73). -/
  identity : Identity
  /-- The renewal contexts (R88). -/
  renewals : Table RenewalContext
  /-- The link table; `none` is a CLOSED link (R113). -/
  links : Table (Option LinkEntry)
  /-- The fault records (R137). -/
  faults : Table FaultRecord
  /-- The notice mode (R148). -/
  noticeMode : NoticeMode
  /-- The owed set, lowest link first (R145). -/
  owed : List Link
  /-- The fault log, oldest first (R155). -/
  log : List LogEntry
  /-- The log's lost count (R155). -/
  lost : Nat
  /-- The tick count of the time base (R167). -/
  tickCount : Nat
  /-- How often the random source has been drawn from (the model's own; DESIGN CHOICE, safe: notes/assumptions/6.md). -/
  draws : Nat
  /-- How many open choices have been made (the model's own; DESIGN CHOICE, safe: notes/assumptions/8.md). -/
  choices : Nat
  /-- Every protection this part has made (the model's own; it says which records a part can open, R5:
  notes/assumptions/7.md). -/
  protections : List Protection
deriving DecidableEq, Repr

/-- A link's key set with no slot (R34). -/
def KeySet.empty : KeySet := { next := none, current := none, previous := none, grace := .stopped }

/-- A renewal context at a restart and after DETACH (R89). -/
def RenewalContext.initial : RenewalContext :=
  { state := .idle, triesUsed := 0, stepTimer := .stopped, retryOwed := false, dueMark := false,
    renewalTimer := .stopped, roundReason := none, lastReason := none, lastAskReason := none,
    confirmOwed := false, claimDue := false, confirmDue := false }

/-- The enable mask of a fault record's starting values: kinds 0–6 and 8–11 (R138). -/
def FaultSet.startMask : FaultSet := 0xF7F#13

/-- The starting values of a fault record (R138). -/
def FaultRecord.initial : FaultRecord :=
  { flags := 0#13, enabled := FaultSet.startMask, stamp := 0, capture := none,
    counterA := { source := .tag, value := 0 }, counterB := { source := .epoch, value := 0 },
    noticeSent := false }

/-- A root entry never loaded since manufacture: empty, with S 0 (R76). I is 0 by DESIGN CHOICE, unsafe
(notes/assumptions/4.md); the live values are those a restart sets from it (R87). -/
def RootEntry.manufactured : RootEntry :=
  { stored := { contents := none, ceiling := 0, inCounter := 0 }, contents := none, ceiling := 0,
    outCounter := 0, inCounter := 0, bound := none }

/-- The part right after its first power-on and start-up (R167, R168), its root store as manufactured. -/
def State.reset : State :=
  { pending := []
    powered := true
    resetLow := false
    starting := false
    requests := []
    output := []
    reading := none
    frameErrors := 0
    overruns := 0
    fresh := true
    cause := .power
    pool := []
    pointer := 63
    keys := Table.filled KeySet.empty
    roots := Table.filled RootEntry.manufactured
    nvQueue := []
    nvWrite := none
    rootReplies := []
    identity :=
      { enrolmentKey := Config.enrolmentKey, serialNumber := Config.serialNumber,
        revision := Config.revision }
    renewals := Table.filled RenewalContext.initial
    links := Table.filled none
    faults := Table.filled FaultRecord.initial
    noticeMode := .all
    owed := []
    log := []
    lost := 0
    tickCount := 0
    draws := 0
    choices := 0
    protections := [] }

end Sys2Proof.Machine
end

