-- ==== Sys2Proof/Machine/Operands.lean ====
section
/-! DEFINITION. Every form in which bytes carry operands across the boundary of the part: multi-byte fields, the
frame and its check (R159, R172), the code tables (R170, R179), record headers and plaintexts (R1, R178), nonces
(R8, R9), and the request bodies of chapter 10 (R171, R173, R174). -/

namespace Sys2Proof.Machine

open Sys2Proof

/-! ## Multi-byte fields -/

/-- The number whose bytes these are, most-significant byte first (section 4.1). -/
def beNat (bytes : List Byte) : Nat := bytes.foldl (fun n b => n * 256 + b.toNat) 0

/-- The low `w` bytes of a number, most-significant byte first (section 4.1). -/
def beBytes : Nat → Nat → List Byte
  | 0, _ => []
  | w + 1, n => BitVec.ofNat 8 (n / 256 ^ w) :: beBytes w n

/-- One byte that holds a small number. -/
def byteOf (n : Nat) : Byte := BitVec.ofNat 8 n

/-- The byte at an offset, 0 where the bytes end sooner (R176). -/
def byteAt (bytes : List Byte) (i : Nat) : Byte := bytes.getD i 0

/-- The `w` bytes from an offset on. -/
def field (bytes : List Byte) (i w : Nat) : List Byte := (bytes.drop i).take w

/-- A number from 0 to 63 in a byte (R170). -/
def numberOf (b : Byte) : Option (Fin 64) :=
  if h : b.toNat < 64 then some ⟨b.toNat, h⟩ else none

/-- A link or entry number as a byte (R170). -/
def numberByte (l : Fin 64) : Byte := byteOf l.val

/-! ## The frame -/

/-- One shift of the check register, polynomial x^16 + x^12 + x^5 + 1 (R159). -/
def crcShift (c : BitVec 16) : BitVec 16 := if c.msb then (c <<< 1) ^^^ 0x1021#16 else c <<< 1

/-- One byte taken into the check register, most-significant bit first (R159). -/
def crcByte (c : BitVec 16) (b : Byte) : BitVec 16 :=
  Nat.repeat crcShift 8 (c ^^^ (b.zeroExtend 16 <<< 8))

/-- The check of a frame over its length, tag, kind and body bytes, initial value 0xFFFF (R159). -/
def crc16 (bytes : List Byte) : BitVec 16 := bytes.foldl crcByte 0xFFFF#16

/-- The bytes of a frame that its check covers: length, tag, kind and body (R159, R172). -/
def frameCore (tag kind : Byte) (body : List Byte) : List Byte :=
  beBytes 2 (1 + body.length) ++ [tag, kind] ++ body

/-- A frame as it is sent (R159, R172). -/
def frameBytes (tag kind : Byte) (body : List Byte) : List Byte :=
  0xC3 :: frameCore tag kind body ++ beBytes 2 (crc16 (frameCore tag kind body)).toNat

/-- The EMPTY frame (R163, R172). -/
def emptyFrame : List Byte := frameBytes 0 0xFF []

/-- The frame checks of R160 on the bytes a write transaction delivered after its lead byte: the request they
hold, or `none` for a frame error. -/
def parseFrame (bytes : List Byte) : Option Request :=
  let len := beNat (field bytes 1 2)
  if byteAt bytes 0 = 0xC3 ∧ 3 ≤ bytes.length ∧ 1 ≤ len ∧ len ≤ Config.maxFrameLength ∧
      bytes.length = len + 6 ∧ (crc16 (field bytes 1 (len + 3))).toNat = beNat (field bytes (len + 4) 2) then
    some { tag := byteAt bytes 3, kind := byteAt bytes 4, body := field bytes 5 (len - 1) }
  else none

/-- The bytes of a frame of the output. -/
def OutFrame.bytes (f : OutFrame) : List Byte := frameBytes f.tag f.kind f.body

/-! ## Code tables -/

/-- Role codes (R170). -/
def Role.code : Role → Byte
  | .hub => 0
  | .shop => 1

/-- The role a byte names (R170). -/
def roleOf (b : Byte) : Option Role :=
  if b = 0 then some .hub else if b = 1 then some .shop else none

/-- Slot role codes (R170). -/
def SlotRole.code : SlotRole → Byte
  | .next => 0
  | .current => 1
  | .previous => 2

/-- Link state codes; CLOSED is 0 (R170). -/
def Supervision.code : Supervision → Byte
  | .keyless => 1
  | .hunt => 2
  | .up => 3
  | .failing => 4

/-- Renewal state codes (R170). -/
def RenewalState.code : RenewalState → Byte
  | .idle => 0
  | .preparing => 1
  | .offered => 2
  | .asking => 3
  | .asked => 4
  | .proved => 5
  | .resting => 6

/-- Reason values (R14, R170). -/
def Reason.code : Reason → Byte
  | .due => 1
  | .wear => 2
  | .spent => 3
  | .host => 4
  | .loss => 5
  | .start => 6

/-- A reason field, 0 where the reason is absent (R170, R176). -/
def reasonByte : Option Reason → Byte
  | none => 0
  | some r => r.code

/-- The reason a byte names (R14). -/
def reasonOf (b : Byte) : Option Reason :=
  if b = 1 then some .due else if b = 2 then some .wear else if b = 3 then some .spent
  else if b = 4 then some .host else if b = 5 then some .loss else if b = 6 then some .start else none

/-- Restart cause codes (R170). -/
def RestartCause.code : RestartCause → Byte
  | .power => 0
  | .pin => 1
  | .commanded => 2

/-- Duplicates codes (R170). -/
def Duplicates.code : Duplicates → Nat
  | .strict => 0
  | .tolerant => 1

/-- The reply status codes (R179). -/
inductive Status where
  | ok
  | clamped
  | badForm
  | noLink
  | notClosed
  | noRoot
  | rootInUse
  | occupied
  | badWrap
  | busy
  | full
  | noKey
  | spent
  | changed
  | aborted
  | unknownKind
deriving DecidableEq, Repr

/-- The byte of a status (R179). -/
def Status.code : Status → Byte
  | .ok => 0x00
  | .clamped => 0x01
  | .badForm => 0x10
  | .noLink => 0x11
  | .notClosed => 0x12
  | .noRoot => 0x13
  | .rootInUse => 0x14
  | .occupied => 0x15
  | .badWrap => 0x16
  | .busy => 0x17
  | .full => 0x18
  | .noKey => 0x19
  | .spent => 0x1A
  | .changed => 0x1B
  | .aborted => 0x1C
  | .unknownKind => 0x1D

/-- A bit as a byte. -/
def bitByte (b : Bool) : Byte := if b then 1 else 0

/-- Bits gathered into a byte, bit 0 first. -/
def bitsByte (b0 b1 b2 : Bool) : Byte :=
  byteOf ((if b0 then 1 else 0) + (if b1 then 2 else 0) + (if b2 then 4 else 0))

/-! ## Records on the line -/

/-- The kinds of record (R1). -/
inductive RecordKind where
  | data
  | beat
  | proof
  | offer
  | ask
deriving DecidableEq, Repr

/-- The kind byte of a record (R1). -/
def RecordKind.code : RecordKind → Byte
  | .data => 1
  | .beat => 2
  | .proof => 3
  | .offer => 4
  | .ask => 5

/-- The kind a kind byte names; 0 and 6–255 are unknown (R1). -/
def recordKindOf (b : Byte) : Option RecordKind :=
  if b = 1 then some .data else if b = 2 then some .beat else if b = 3 then some .proof
  else if b = 4 then some .offer else if b = 5 then some .ask else none

/-- OFFER and ASK are root records, the others traffic records (R2). -/
def RecordKind.isRoot : RecordKind → Bool
  | .offer => true
  | .ask => true
  | .data => false
  | .beat => false
  | .proof => false

/-- The payload length a kind fixes; DATA fixes none (R2). -/
def RecordKind.fixedLength : RecordKind → Option Nat
  | .data => none
  | .beat => some 0
  | .proof => some 0
  | .offer => some 38
  | .ask => some 1

/-- Whether a kind may travel toward a role: no OFFER toward a hub, no ASK and no PROOF toward a shop (R2). -/
def RecordKind.mayReach : RecordKind → Role → Bool
  | .offer, .hub => false
  | .ask, .shop => false
  | .proof, .shop => false
  | .data, _ => true
  | .beat, _ => true
  | .proof, .hub => true
  | .offer, .shop => true
  | .ask, .hub => true

/-- The kind byte of a record as handed in (R176, R178). -/
def recordKindByte (r : List Byte) : Byte := byteAt r 0

/-- The epoch byte of a record (R178). -/
def recordEpochByte (r : List Byte) : Byte := byteAt r 1

/-- The epoch field of a record. -/
def recordEpoch (r : List Byte) : Nat := (recordEpochByte r).toNat

/-- The four sequence bytes of a record, 0 where it is too short (R176). -/
def recordSequenceBytes (r : List Byte) : List Byte := [byteAt r 6, byteAt r 7, byteAt r 8, byteAt r 9]

/-- The sequence field of a record. -/
def recordSequence (r : List Byte) : Nat := beNat (recordSequenceBytes r)

/-- The shop number field of a record. -/
def recordShop (r : List Byte) : BitVec 32 := BitVec.ofNat 32 (beNat (field r 2 4))

/-- The length field of a record. -/
def recordLength (r : List Byte) : Nat := beNat (field r 10 2)

/-- The header of 12 bytes (R1, R178). -/
def headerBytes (kind : RecordKind) (epoch : Nat) (shop : BitVec 32) (sequence length : Nat) : List Byte :=
  [kind.code, byteOf epoch] ++ beBytes 4 shop.toNat ++ beBytes 4 sequence ++ beBytes 2 length

/-- The nine header checks of R15 that give FORM, for a link in this role with this shop number. -/
def headerMalformed (role : Role) (shop : BitVec 32) (r : List Byte) : Bool :=
  match recordKindOf (recordKindByte r) with
  | none => true
  | some kind =>
    decide (r.length < 28) || decide (Config.maxPayload < recordLength r) ||
    decide (r.length ≠ 28 + recordLength r) || decide (recordSequence r = 0) ||
    (kind.isRoot != decide (recordEpoch r = 0)) || !kind.mayReach role ||
    (match kind.fixedLength with | none => false | some n => decide (recordLength r ≠ n)) ||
    decide (recordShop r ≠ shop)

/-- The 38 bytes of an OFFER's plaintext (R13, R178). -/
def OfferText.bytes (t : OfferText) : List Byte :=
  [byteOf t.epoch, bitByte t.fresh] ++ beBytes 32 t.key.toNat ++ beBytes 4 t.salt.toNat

/-- The OFFER a plaintext holds, `none` for new epoch 0 or a fresh mark that is neither 0 nor 1 (R13). -/
def offerOf (p : List Byte) : Option OfferText :=
  if (byteAt p 0).toNat = 0 ∨ 1 < (byteAt p 1).toNat then none
  else some { epoch := (byteAt p 0).toNat, fresh := byteAt p 1 = 1,
              key := BitVec.ofNat 256 (beNat (field p 2 32)), salt := BitVec.ofNat 32 (beNat (field p 34 4)) }

/-- The part a plaintext plays at its release, `none` where it fails its check (R13, R14). A root record that
reaches a hub is an ASK and one that reaches a shop an OFFER (R15). -/
def rootContentOf (role : Role) (p : List Byte) : Option RootContent :=
  match role with
  | .hub => (reasonOf (byteAt p 0)).map .ask
  | .shop => (offerOf p).map .offer

/-! ## Nonces and the record cipher -/

/-- A record's direction: 0 from hub to shop, 1 from shop to hub (R6); this is that of records sent by a role. -/
def Role.outbound : Role → Bool
  | .hub => false
  | .shop => true

/-- The direction of the records a role receives (R6). -/
def Role.inbound : Role → Bool
  | .hub => true
  | .shop => false

/-- The nonce: a salt, the direction as one bit before 31 zero bits, and the sequence or counter (R8, R9). -/
def nonceOf (salt : Salt) (direction : Bool) (sequence : Nat) : Nonce :=
  salt ++ (if direction then 0x80000000#32 else 0#32) ++ BitVec.ofNat 32 sequence

/-- The nonce of a root record has 32 zero bits in place of a salt (R9). -/
def rootNonce (direction : Bool) (counter : Nat) : Nonce := nonceOf 0#32 direction counter

/-- A payload enciphered: a body of the same length (R5). -/
def encipherBytes (key : Key) (nonce : Nonce) (payload : List Byte) : List Byte :=
  (Config.cipher payload.length key nonce ⟨payload.toArray, by simp⟩).toList

/-- A body deciphered (R5). -/
def decipherBytes (key : Key) (nonce : Nonce) (body : List Byte) : List Byte :=
  ((Config.cipher body.length key nonce).symm ⟨body.toArray, by simp⟩).toList

/-- The sixteen tag bytes over a header and a body (R5). -/
def tagBytes (key : Key) (nonce : Nonce) (header body : List Byte) : List Byte :=
  beBytes 16 (Config.tagOf key nonce header body).toNat

/-- A protected record: header, body and tag (R1, R5). -/
def protect (key : Key) (nonce : Nonce) (header payload : List Byte) : List Byte :=
  header ++ encipherBytes key nonce payload ++ tagBytes key nonce header (encipherBytes key nonce payload)

/-- The tag of a protection (R5). -/
def protectionTag (p : Protection) : RecordTag := Config.tagOf p.key p.nonce p.header p.body

/-- The protection that `protect` makes of a payload (R5). -/
def protectionOf (key : Key) (nonce : Nonce) (header payload : List Byte) : Protection :=
  { key := key, nonce := nonce, header := header, body := encipherBytes key nonce payload }

/-- Whether this protection was made, by this part, which has made those of `made`, or outside it, and its tag is that of
no other protection of this part (R5; DEDUCED, unsafe: notes/assumptions/7.md). -/
def isGenuine (made : List Protection) (p : Protection) : Bool :=
  (decide (Config.origin (protectionTag p) = some p) || decide (p ∈ made)) &&
    made.all fun x => decide (protectionTag x = protectionTag p → x = p)

/-- The payload of a sealed text with this header, body and tag, or `none` where it does not verify: the tag differs from
the one recomputed, or the text was never protected so (R5). -/
def openSealed (made : List Protection) (key : Key) (nonce : Nonce) (header body tag : List Byte) :
    Option (List Byte) :=
  if tagBytes key nonce header body = tag ∧
      isGenuine made { key := key, nonce := nonce, header := header, body := body } then
    some (decipherBytes key nonce body)
  else none

/-- A protected record opened: its payload, or `none` for a tag failure (R5). -/
def openRecord (made : List Protection) (key : Key) (nonce : Nonce) (r : List Byte) : Option (List Byte) :=
  openSealed made key nonce (r.take 12) (field r 12 (r.length - 28)) (r.drop (r.length - 16))

/-! ## Request bodies -/

/-- An item of a policy list: a field number and a value (R174). -/
abbrev PolicyItem := Nat × Nat

/-- A policy list cut into items of 5 bytes, `none` when its length is no multiple of 5 (R174). -/
def policyItems : List Byte → Option (List PolicyItem)
  | [] => some []
  | n :: a :: b :: c :: d :: rest => (policyItems rest).map ((n.toNat, beNat [a, b, c, d]) :: ·)
  | _ => none

/-- An item names a field and, for an enumerated field, one of its two settings (R174). -/
def policyItemValid (item : PolicyItem) : Bool :=
  decide (1 ≤ item.1 ∧ item.1 ≤ 13) && (decide (item.1 < 12) || decide (item.2 ≤ 1))

/-- A policy list that is well formed: whole items, each valid, no number twice (R174). -/
def policyListOf (bytes : List Byte) : Option (List PolicyItem) :=
  match policyItems bytes with
  | none => none
  | some items =>
    if items.all policyItemValid && decide (items.map Prod.fst).Nodup then some items else none

/-- The default policy (R115). -/
def Policy.default : Policy :=
  { lockIn := 3, lockOut := 4, silenceTicks := 600, beatTicks := 150, renewTicks := 864000,
    wearLimit := 4294967295, softEighths := 6, graceTicks := 300, offerTicks := 50, offerTries := 3,
    restTicks := 600, duplicates := .tolerant, rekeyOnLoss := true }

/-- The range of a numeric policy field (R115); beat_ticks is taken apart in `clampField`. -/
def policyBounds : Nat → Nat × Nat
  | 1 => (1, 15)
  | 2 => (1, 15)
  | 3 => (10, 65535)
  | 4 => (5, 65535)
  | 5 => (600, 16777215)
  | 6 => (4096, 4294967295)
  | 7 => (1, 7)
  | 8 => (1, 65535)
  | 9 => (10, 65535)
  | 10 => (1, 7)
  | 11 => (50, 65535)
  | _ => (0, 1)

/-- A value clamped to its field's range; a beat_ticks of 0 is taken as 0 (R116). -/
def clampField (item : PolicyItem) : Nat :=
  if item.1 = 4 ∧ item.2 = 0 then 0
  else max (policyBounds item.1).1 (min item.2 (policyBounds item.1).2)

/-- The policy with one field written, clamped (R116, R120). -/
def Policy.write (p : Policy) (item : PolicyItem) : Policy :=
  match item.1 with
  | 1 => { p with lockIn := clampField item }
  | 2 => { p with lockOut := clampField item }
  | 3 => { p with silenceTicks := clampField item }
  | 4 => { p with beatTicks := clampField item }
  | 5 => { p with renewTicks := clampField item }
  | 6 => { p with wearLimit := clampField item }
  | 7 => { p with softEighths := clampField item }
  | 8 => { p with graceTicks := clampField item }
  | 9 => { p with offerTicks := clampField item }
  | 10 => { p with offerTries := clampField item }
  | 11 => { p with restTicks := clampField item }
  | 12 => { p with duplicates := if item.2 = 0 then .strict else .tolerant }
  | 13 => { p with rekeyOnLoss := item.2 != 0 }
  | _ => p

/-- Every given field written (R118, R120). -/
def Policy.writeAll (p : Policy) (items : List PolicyItem) : Policy := items.foldl Policy.write p

/-- The numbers of the clamped fields, in increasing order (R116). -/
def clampedFields (items : List PolicyItem) : List Nat :=
  (List.range' 1 11).filter fun n => items.any fun item => item.1 == n && clampField item != item.2

/-- The thirteen policy values in field order, as LINK-READ gives them (R175). -/
def Policy.values (p : Policy) : List Nat :=
  [p.lockIn, p.lockOut, p.silenceTicks, p.beatTicks, p.renewTicks, p.wearLimit, p.softEighths, p.graceTicks,
   p.offerTicks, p.offerTries, p.restTicks, p.duplicates.code, if p.rekeyOnLoss then 1 else 0]

/-- A set of fault kinds in two bytes, `none` where bits 13–15 are not 0 (R170, R171). -/
def faultSetOf (bytes : List Byte) : Option FaultSet :=
  if beNat bytes < 8192 then some (BitVec.ofNat 13 (beNat bytes)) else none

/-- A set of fault kinds as two bytes (R170). -/
def faultSetBytes (f : FaultSet) : List Byte := beBytes 2 f.toNat

/-- The body of ROOT-LOAD (R173, R75). -/
structure RootLoadBody where
  entry : EntryNo
  shopNumber : BitVec 32
  role : Role
  wrapNonce : Nonce
  wrappedKey : List Byte
  wrapTag : List Byte
  floor : Nat
deriving DecidableEq, Repr

/-- ROOT-LOAD: 70 bytes, an entry of 0–63 and a role (R75, R173). -/
def rootLoadBodyOf (b : List Byte) : Option RootLoadBody :=
  if b.length = 70 then
    match numberOf (byteAt b 0), roleOf (byteAt b 5) with
    | some e, some role =>
      some { entry := e, shopNumber := BitVec.ofNat 32 (beNat (field b 1 4)), role := role,
             wrapNonce := BitVec.ofNat 96 (beNat (field b 6 12)), wrappedKey := field b 18 32,
             wrapTag := field b 50 16, floor := beNat (field b 66 4) }
    | _, _ => none
  else none

/-- The root key a wrap holds, or `none` for BAD-WRAP: the record cipher under the enrolment key and the wrap
nonce, with the shop number and the role in place of a header (R75). -/
def unwrapRootKey (made : List Protection) (enrolmentKey : Key) (b : RootLoadBody) : Option Key :=
  (openSealed made enrolmentKey b.wrapNonce (beBytes 4 b.shopNumber.toNat ++ [b.role.code]) b.wrappedKey
    b.wrapTag).map fun p => BitVec.ofNat 256 (beNat p)

/-- A body of one root entry number; one above 63 is a malformation (R171). -/
def entryBodyOf : List Byte → Option EntryNo
  | [e] => numberOf e
  | _ => none

/-- A body of one link number, of any value (R171). -/
def linkBodyOf : List Byte → Option Byte
  | [l] => some l
  | _ => none

/-- ATTACH: link, entry, policy list (R173). -/
def attachBodyOf : List Byte → Option (Byte × EntryNo × List PolicyItem)
  | l :: e :: rest =>
    match numberOf e, policyListOf rest with
    | some entry, some items => some (l, entry, items)
    | _, _ => none
  | _ => none

/-- POLICY: link, policy list (R173). -/
def policyBodyOf : List Byte → Option (Byte × List PolicyItem)
  | l :: rest => (policyListOf rest).map (l, ·)
  | _ => none

/-- ENCIPHER: link, payload of at most 1,024 bytes (R173). -/
def encipherBodyOf : List Byte → Option (Byte × List Byte)
  | l :: payload => if payload.length ≤ Config.maxPayload then some (l, payload) else none
  | _ => none

/-- DECIPHER: link, record length, record of that many bytes (R61, R173). -/
def decipherBodyOf : List Byte → Option (Byte × List Byte)
  | l :: h :: k :: record => if beNat [h, k] = record.length then some (l, record) else none
  | _ => none

/-- FAULT-CLEAR: link, mask, expected stamp when its presence bit is set (R173). -/
def faultClearBodyOf : List Byte → Option (Byte × FaultSet × Option Nat)
  | [l, p, m, k] => if p = 0 then (faultSetOf [m, k]).map fun f => (l, f, none) else none
  | [l, p, m, k, h, j] => if p = 1 then (faultSetOf [m, k]).map fun f => (l, f, some (beNat [h, j])) else none
  | _ => none

/-- FAULT-ENABLE: link, mask (R173). -/
def faultEnableBodyOf : List Byte → Option (Byte × FaultSet)
  | [l, m, k] => (faultSetOf [m, k]).map (l, ·)
  | _ => none

/-- The body of COUNTER-SET (R173): counter B when `second`. -/
structure CounterSetBody where
  link : Byte
  second : Bool
  source : Option FaultKind
  zero : Bool
deriving DecidableEq, Repr

/-- The kinds of fault in the order of their numbers (R135). -/
def FaultKind.all : List FaultKind :=
  [.tag, .replay, .late, .form, .epoch, .silent, .loss, .due, .overdue, .spent, .renewFail, .rootReplay, .beatSkip]

/-- The number of a kind of fault (R135). -/
def FaultKind.code : FaultKind → Nat
  | .tag => 0
  | .replay => 1
  | .late => 2
  | .form => 3
  | .epoch => 4
  | .silent => 5
  | .loss => 6
  | .due => 7
  | .overdue => 8
  | .spent => 9
  | .renewFail => 10
  | .rootReplay => 11
  | .beatSkip => 12

/-- The kind of fault of a number, 0–12 (R135). -/
def faultKindOf (b : Byte) : Option FaultKind := FaultKind.all[b.toNat]?

/-- COUNTER-SET: link, counter, presence, source when its bit is set; the zero bit carries no byte (R173). -/
def counterSetBodyOf : List Byte → Option CounterSetBody
  | [l, c, p] =>
    if c.toNat ≤ 1 ∧ (p = 0 ∨ p = 2) then some { link := l, second := c = 1, source := none, zero := p = 2 }
    else none
  | [l, c, p, k] =>
    if c.toNat ≤ 1 ∧ (p = 1 ∨ p = 3) then
      (faultKindOf k).map fun kind => { link := l, second := c = 1, source := some kind, zero := p = 3 }
    else none
  | _ => none

/-- The body of NOTICE-MODE: a mode, with the link byte exactly when it is ONE (R173). -/
inductive NoticeModeBody where
  | plain (mode : NoticeMode)
  | one (link : Byte)
deriving DecidableEq, Repr

/-- NOTICE-MODE: modes ALL 0, NONE 1, LOW 2, HIGH 3, ONE 4 (R170, R173). -/
def noticeModeBodyOf : List Byte → Option NoticeModeBody
  | [m] =>
    if m = 0 then some (.plain .all) else if m = 1 then some (.plain .none)
    else if m = 2 then some (.plain .low) else if m = 3 then some (.plain .high) else none
  | [m, l] => if m = 4 then some (.one l) else none
  | _ => none

/-- A notice mode as NOTICE-MODE's reply gives it (R175). -/
def NoticeMode.bytes : NoticeMode → List Byte
  | .all => [0]
  | .none => [1]
  | .low => [2]
  | .high => [3]
  | .one l => [4, numberByte l]

/-- LOG-READ: a count of 1–8 (R173). -/
def logReadBodyOf : List Byte → Option Nat
  | [n] => if 1 ≤ n.toNat ∧ n.toNat ≤ 8 then some n.toNat else none
  | _ => none

/-- The codes of the twenty request kinds (R173). -/
abbrev requestKinds : List Byte :=
  [0x01, 0x02, 0x03, 0x10, 0x11, 0x12, 0x20, 0x21, 0x22, 0x23, 0x24, 0x25, 0x30, 0x31, 0x40, 0x41, 0x42, 0x43,
   0x44, 0x45]

/-- The kind of a RESTART frame (R173). -/
abbrev restartKind : Byte := 0x03

/-! ## Lemmas of these definitions -/

@[simp] theorem beBytes_length (w n : Nat) : (beBytes w n).length = w := by
  induction w with
  | zero => rfl
  | succ w ih => simp [beBytes, ih]

@[simp] theorem encipherBytes_length (key : Key) (nonce : Nonce) (p : List Byte) :
    (encipherBytes key nonce p).length = p.length := by
  simp [encipherBytes]

@[simp] theorem decipherBytes_length (key : Key) (nonce : Nonce) (p : List Byte) :
    (decipherBytes key nonce p).length = p.length := by
  simp [decipherBytes]

end Sys2Proof.Machine
end

