-- ==== Sys2Proof/Machine/Flags.lean ====
section
/-! DEFINITION. The flag computations of the part: sets of fault kinds (R137, R170), the links a notice mode
includes (R148), and what one occurrence does to a fault record (R139, R140, R141). -/

namespace Sys2Proof.Machine

open Sys2Proof

/-- Whether a kind is a member of a set (R170). -/
def FaultSet.has (f : FaultSet) (k : FaultKind) : Bool := f.getLsbD k.code

/-- The set with a kind added. -/
def FaultSet.add (f : FaultSet) (k : FaultKind) : FaultSet := f ||| (1#13 <<< k.code)

/-- The set without the kinds of a mask (R151). -/
def FaultSet.without (f mask : FaultSet) : FaultSet := f &&& ~~~mask

/-- Whether two sets share a kind: a flag that is in the enable mask (R143). -/
def FaultSet.meets (f g : FaultSet) : Bool := f &&& g != 0#13

/-- Whether a notice mode includes a link (R148). -/
def NoticeMode.includes : NoticeMode → Link → Bool
  | .all, _ => true
  | .none, _ => false
  | .low, l => decide (l.val < 32)
  | .high, l => decide (32 ≤ l.val)
  | .one m, l => decide (l = m)

/-- A counter after an occurrence of a kind: one more when it is its source, saturating at 65,535 (R139). -/
def FaultCounter.count (c : FaultCounter) (k : FaultKind) : FaultCounter :=
  if c.source = k then { c with value := min (c.value + 1) maxHalf } else c

/-- Both counters after an occurrence of a kind (R139), or after a tolerated duplicate for REPLAY (R141). -/
def FaultRecord.countKind (r : FaultRecord) (k : FaultKind) : FaultRecord :=
  { r with counterA := r.counterA.count k, counterB := r.counterB.count k }

/-- A newly set flag: the flag, the stamp, and the capture where it is absent (R140, steps 1 to 3). -/
def FaultRecord.flag (r : FaultRecord) (c : Capture) : FaultRecord :=
  { r with flags := r.flags.add c.kind, stamp := (r.stamp + 1) % 65536, capture := r.capture <|> some c }

/-- The flags after a FAULT-CLEAR; the capture becomes absent when they are empty (R151). -/
def FaultRecord.clear (r : FaultRecord) (mask : FaultSet) : FaultRecord :=
  { r with flags := r.flags.without mask
           capture := if r.flags.without mask = 0#13 then none else r.capture }

/-- The flags that make the link pending where the notice mode includes it (R143). -/
def FaultRecord.meets (r : FaultRecord) : Bool := r.flags.meets r.enabled

end Sys2Proof.Machine
end

