-- ==== Sys2Proof/Machine/Wear.lean ====
section
/-! DEFINITION. The arithmetic of a key slot: blocks, thresholds, charges, the soft crossing test and the inbound
window (chapter 3), epochs and the creation of a slot (chapter 2), and the timers. -/

namespace Sys2Proof.Machine

open Sys2Proof

/-! ## Timers -/

/-- A timer at a tick: down by one, or due where it would reach 0 (section 4.2). -/
def Timer.tick : Timer → Timer
  | .stopped => .stopped
  | .running n => if n ≤ 1 then .expiring else .running (n - 1)
  | .expiring => .expiring

/-- The remainder a read reports, 0 for stopped (R170); a timer whose expiry is due still shows its last tick
(DESIGN CHOICE, unsafe: notes/assumptions/2.md). -/
def Timer.remainder : Timer → Nat
  | .stopped => 0
  | .running n => n
  | .expiring => 1

/-- Whether a timer is running, its expiry not yet taken. -/
def Timer.isOn : Timer → Bool
  | .stopped => false
  | .running _ => true
  | .expiring => true

/-- A beat timer started or reloaded with beat_ticks; with beat_ticks 0 it is stopped (R132). -/
def beatLoad (ticks : Nat) : Timer := if ticks = 0 then .stopped else .running ticks

/-! ## Blocks and thresholds -/

/-- The blocks of a record with a payload of n bytes (R36). -/
def blocks (n : Nat) : Nat := (n + 15) / 16 + 2

/-- The soft threshold of a slot (R37). -/
def softThreshold (wearLimit softEighths : Nat) : Nat := wearLimit * softEighths / 8

/-- The successor of an epoch (R19). -/
def nextEpoch (e : Nat) : Nat := e % 255 + 1

/-- A slot at its creation (R18). -/
def newSlot (p : Policy) (epoch : Nat) (key : Key) (salt : Salt) (tick : Nat) : KeySlot :=
  { epoch := epoch, key := key, salt := salt, wearLimit := p.wearLimit,
    softThreshold := softThreshold p.wearLimit p.softEighths, outSequence := 0, protectedBlocks := 0,
    openedBlocks := 0, softCrossed := false, window := { high := 0, seen := [] }, creationTick := tick }

/-! ## Charges -/

/-- The two tests of an outbound charge (R38). -/
def KeySlot.canProtect (k : KeySlot) (n : Nat) : Bool :=
  decide (k.outSequence < maxWord) && decide (k.protectedBlocks + blocks n ≤ k.wearLimit)

/-- An outbound charge: the next sequence and the record's blocks (R38). -/
def KeySlot.chargeOut (k : KeySlot) (n : Nat) : KeySlot :=
  { k with outSequence := k.outSequence + 1, protectedBlocks := k.protectedBlocks + blocks n }

/-- An inbound charge, saturating at 4,294,967,295 (R42). -/
def KeySlot.chargeIn (k : KeySlot) (n : Nat) : KeySlot :=
  { k with openedBlocks := min (k.openedBlocks + blocks n) maxWord }

/-- The soft crossing test (R43). -/
def KeySlot.crosses (k : KeySlot) : Bool :=
  !k.softCrossed &&
    (decide (k.softThreshold ≤ k.protectedBlocks + k.openedBlocks) || decide (2147483648 ≤ k.outSequence))

/-! ## The inbound window -/

/-- The judgements of the window (R46). -/
inductive Judgement where
  | accepted
  | duplicate
  | late
deriving DecidableEq, Repr

/-- The judgement of a sequence against a window (R46). -/
def Window.judge (w : Window) (s : Nat) : Judgement :=
  if w.high < s then .accepted
  else if s + 63 < w.high then .late
  else if s ∈ w.seen then .duplicate
  else .accepted

/-- A sequence put into a rising list at its place. -/
def insertRising (s : Nat) : List Nat → List Nat
  | [] => [s]
  | x :: rest => if s < x then s :: x :: rest else if s = x then x :: rest else x :: insertRising s rest

/-- An accepted sequence enters the window (R47). -/
def Window.accept (w : Window) (s : Nat) : Window :=
  if w.high < s then { high := s, seen := (w.seen.filter fun x => decide (s ≤ x + 63)) ++ [s] }
  else { w with seen := insertRising s w.seen }

/-! ## The slots of a link -/

/-- The slot of a role (R17). -/
def KeySet.slot (k : KeySet) : SlotRole → Option KeySlot
  | .next => k.next
  | .current => k.current
  | .previous => k.previous

/-- The key set with the slot of a role replaced. -/
def KeySet.withSlot (k : KeySet) (role : SlotRole) (slot : Option KeySlot) : KeySet :=
  match role with
  | .next => { k with next := slot }
  | .current => { k with current := slot }
  | .previous => { k with previous := slot }

/-- Whether the slot of a role satisfies `p`. -/
def KeySet.holds (k : KeySet) (role : SlotRole) (p : KeySlot → Bool) : Bool := (k.slot role).any p

/-- The role whose slot satisfies `p`, looked for in the order NEXT, CURRENT, PREVIOUS. -/
def KeySet.find (k : KeySet) (p : KeySlot → Bool) : Option SlotRole :=
  if k.holds .next p then some .next
  else if k.holds .current p then some .current
  else if k.holds .previous p then some .previous
  else none

/-- The slots of a link promoted (R24, steps 1 to 3): the PREVIOUS is erased, CURRENT becomes PREVIOUS with a full
grace remainder, NEXT becomes CURRENT. -/
def KeySet.promote (k : KeySet) (graceTicks : Nat) : KeySet :=
  { next := none, current := k.next, previous := k.current,
    grace := if k.current.isSome then .running graceTicks else .stopped }

/-- The slots left after PREVIOUS is erased: its grace timer stops with it (R26, R28). -/
def KeySet.erasePrevious (k : KeySet) : KeySet := { k with previous := none, grace := .stopped }

/-- What a released OFFER does to a shop's key set (R22). -/
inductive Installation where
  | stale
  | keep
  | replaceAll
  | replaceNext
deriving DecidableEq, Repr

/-- The line of R22's table that applies, read from the top. -/
def KeySet.installation (k : KeySet) (t : OfferText) : Installation :=
  if k.holds .current fun c => c.epoch == t.epoch && c.key == t.key then .stale
  else if k.holds .next fun n => n.epoch == t.epoch && n.key == t.key && n.salt == t.salt then .keep
  else if t.fresh then .replaceAll
  else if k.holds .current fun c => c.epoch == t.epoch then .replaceAll
  else .replaceNext

/-- The key set after the installation of a new NEXT (R22). -/
def KeySet.install (k : KeySet) (how : Installation) (epoch : Nat) (slot : KeySlot) : KeySet :=
  match how with
  | .stale => k
  | .keep => k
  | .replaceAll => { KeySet.empty with next := some slot }
  | .replaceNext =>
    if k.holds .previous fun p => p.epoch == epoch then { k.erasePrevious with next := some slot }
    else { k with next := some slot }

end Sys2Proof.Machine
end

