-- ==== Sys2Proof/Machine/Ops.lean ====
section
/-! DEFINITION. The named operations every command is built from, block by block: reading and changing a record of
a table, placing output frames, notices and occurrences (chapter 8), the NV write queue and root counters
(chapter 5), jobs and control requests (chapter 4), rounds and triggers (chapter 6), verdicts (chapter 7),
promotion and installation (chapter 2), and the restart (R167). -/

namespace Sys2Proof.Machine

open Sys2Proof

/-! ## The records of the tables -/

/-- The key set of a link. -/
def State.keySet (s : State) (l : Link) : KeySet := s.keys.look l

/-- The renewal context of a link. -/
def State.renewal (s : State) (l : Link) : RenewalContext := s.renewals.look l

/-- The link table entry of an attached link; `none` for a CLOSED one. -/
def State.entry (s : State) (l : Link) : Option LinkEntry := s.links.look l

/-- The fault record of a link. -/
def State.faultRecord (s : State) (l : Link) : FaultRecord := s.faults.look l

/-- A root entry. -/
def State.root (s : State) (e : EntryNo) : RootEntry := s.roots.look e

/-- The key set of a link replaced. -/
def State.setKeys (s : State) (l : Link) (k : KeySet) : State := { s with keys := s.keys.put l k }

/-- The renewal context of a link replaced. -/
def State.setRenewal (s : State) (l : Link) (c : RenewalContext) : State :=
  { s with renewals := s.renewals.put l c }

/-- The link table entry of a link replaced. -/
def State.setEntry (s : State) (l : Link) (e : Option LinkEntry) : State := { s with links := s.links.put l e }

/-- The fault record of a link replaced. -/
def State.setFaults (s : State) (l : Link) (r : FaultRecord) : State := { s with faults := s.faults.put l r }

/-- A root entry replaced. -/
def State.setRoot (s : State) (e : EntryNo) (r : RootEntry) : State := { s with roots := s.roots.put e r }

/-- The renewal context of a link changed. -/
def State.onRenewal (s : State) (l : Link) (f : RenewalContext → RenewalContext) : State :=
  s.setRenewal l (f (s.renewal l))

/-- The entry of a link changed, if it is attached. -/
def State.onEntry (s : State) (l : Link) (f : LinkEntry → LinkEntry) : State := s.setEntry l ((s.entry l).map f)

/-- The fault record of a link changed. -/
def State.onFaults (s : State) (l : Link) (f : FaultRecord → FaultRecord) : State :=
  s.setFaults l (f (s.faultRecord l))

/-- The outcome of the next open choice among `k` (DESIGN CHOICE, safe: notes/assumptions/8.md). -/
def State.choice (s : State) (k : Nat) : Nat := Config.freeChoice s.choices % k

/-- The state after an open choice has been made. -/
def State.chosen (s : State) : State := { s with choices := s.choices + 1 }

/-! ## Output frames and the slots they fill -/

/-- A frame fills its slot and joins the output queue (R162). -/
def State.place (s : State) (f : OutFrame) : State := { s with output := s.output ++ [f] }

/-- A reply: the request's kind plus 0x80, its tag, and a body that begins with the status (R161, R175). -/
def replyFrame (tag kind : Byte) (status : Status) (rest : List Byte) : OutFrame :=
  { share := .requestOwned, tag := tag, kind := kind + 0x80, body := status.code :: rest }

/-- The reply to a request is placed in its reserved slot (R161). -/
def State.reply (s : State) (r : Request) (status : Status) (rest : List Byte) : State :=
  s.place (replyFrame r.tag r.kind status rest)

/-- ENCIPHER and DECIPHER jobs are host jobs, the others control jobs (R52). -/
def Work.isHost : Work → Bool
  | .encipher .. => true
  | .beat .. => false
  | .proof .. => false
  | .offer .. => false
  | .ask .. => false
  | .decipherTraffic .. => true
  | .decipherRoot .. => true

/-- A host job (R52). -/
def Job.isHost (j : Job) : Bool := j.work.isHost

/-- A control job (R52); it holds a reserved unsolicited slot until its EMIT fills it (R65). -/
def Job.isControl (j : Job) : Bool := !j.work.isHost

/-- The host jobs in the pool (R52). -/
def State.hostJobs (s : State) : Nat := s.pool.countP Job.isHost

/-- The control jobs in the pool (R52). -/
def State.controlJobs (s : State) : Nat := s.pool.countP Job.isControl

/-- A filled unsolicited slot's frame. -/
def OutFrame.isUnsolicited (f : OutFrame) : Bool := f.share == .unsolicited

/-- A filled request-owned slot's frame. -/
def OutFrame.isReply (f : OutFrame) : Bool := f.share == .requestOwned

/-- Unsolicited slots filled, or reserved by a control job (R162). -/
def State.unsolicitedInUse (s : State) : Nat := s.output.countP OutFrame.isUnsolicited + s.controlJobs

/-- Request-owned slots filled, or reserved by an admitted request that has not been answered: one in the request
queue, a host job, or a ROOT-LOAD or ROOT-ERASE that waits for its write (R162; DEDUCED, safe:
notes/assumptions/21.md). -/
def State.requestOwnedInUse (s : State) : Nat :=
  s.output.countP OutFrame.isReply + s.requests.length + s.hostJobs + s.rootReplies.length

/-- An unsolicited slot is free (R162). -/
def State.unsolicitedFree (s : State) : Bool := decide (s.unsolicitedInUse < Config.unsolicitedSlots)

/-- The request queue has a free entry and a request-owned slot is free (R158, R160). -/
def State.ready (s : State) : Bool :=
  decide (s.requests.length < Config.requestQueueSize) && decide (s.requestOwnedInUse < Config.requestSlots)

/-- The part is not held in restart, has its supply and has started (R168). -/
def State.operating (s : State) : Bool := s.powered && !s.resetLow && !s.starting

/-- The part has its supply and is not held in restart, and its start-up has not ended (R168). -/
def State.startingUp (s : State) : Bool := s.powered && !s.resetLow && s.starting

/-- The status byte: READY, OUT and FRESH, or 0x00 of a part held in restart or starting (R158, R168, R172). -/
def State.statusByte (s : State) : Byte :=
  if s.operating then bitsByte s.ready (!s.output.isEmpty) s.fresh else 0

/-- ATTN is driven low while the output queue holds a frame (R163; DEDUCED: notes/assumptions/15.md). -/
def State.attnLow (s : State) : Bool := !s.output.isEmpty

/-- The byte the part shifts out at place `i` after the status byte of a transaction: of the frame chosen at the
lead byte of a read, and 0x00 beyond its end and in every other transaction (R157, R163). -/
def State.dataOut (s : State) (i : Nat) : Byte :=
  match s.reading with
  | none => 0
  | some r => byteAt r.bytes i

/-! ## Pending links and notices -/

/-- A link is pending (R143). -/
def State.isPending (s : State) (l : Link) : Bool := (s.faultRecord l).meets && s.noticeMode.includes l

/-- The NOTICE of a link as it stands (R144, R177). -/
def State.noticeFrame (s : State) (l : Link) : OutFrame :=
  { share := .unsolicited, tag := 0, kind := 0xE1,
    body := numberByte l :: faultSetBytes ((s.faultRecord l).flags &&& (s.faultRecord l).enabled) ++
      beBytes 2 (s.faultRecord l).stamp }

/-- A NOTICE is placed and the notice-sent mark set (R143, R145). -/
def State.placeNotice (s : State) (l : Link) : State :=
  (s.place (s.noticeFrame l)).onFaults l fun r => { r with noticeSent := true }

/-- A link joins the owed set, kept lowest first (R145). -/
def joinOwed (l : Link) : List Link → List Link
  | [] => [l]
  | x :: rest => if l < x then l :: x :: rest else if l = x then x :: rest else x :: joinOwed l rest

/-- A link has become pending (R143). A link that becomes pending while others are owed joins the owed set as well
(R145). -/
def State.becomePending (s : State) (l : Link) : State :=
  if (s.faultRecord l).noticeSent then s
  else if s.unsolicitedFree && s.owed.isEmpty then s.placeNotice l
  else { s with owed := joinOwed l s.owed }

/-- A link has ceased to be pending (R147). -/
def State.ceasePending (s : State) (l : Link) : State :=
  { s.onFaults l (fun r => { r with noticeSent := false }) with owed := s.owed.filter fun x => decide (x ≠ l) }

/-- A link's pending state judged again, after an event before which it was or was not pending (R143, R147). -/
def State.judgePending (s : State) (l : Link) (before : Bool) : State :=
  match before, s.isPending l with
  | false, true => s.becomePending l
  | true, false => s.ceasePending l
  | true, true => s
  | false, false => s

/-- The owed links take free unsolicited slots, lowest first, until the slots or the links run out (R145). -/
def serveOwedList : List Link → State → State
  | [], s => s
  | l :: rest, s =>
    if s.unsolicitedFree then serveOwedList rest ({ s with owed := rest }.placeNotice l) else s

/-- The owed set served after unsolicited slots have become free (R145). -/
def State.serveOwed (s : State) : State := serveOwedList s.owed s

/-- An entry offered to the fault log (R155). -/
def State.offerLog (s : State) (x : LogEntry) : State :=
  if s.log.length < Config.logSize then { s with log := s.log ++ [x] }
  else { s with lost := min (s.lost + 1) maxHalf }

/-- An occurrence of a kind of fault on a link (R136, R139, R140, R143). -/
def State.occurrence (s : State) (l : Link) (k : FaultKind) (epoch sequence : Option Nat) : State :=
  let counted := s.onFaults l fun r => r.countKind k
  if (s.faultRecord l).flags.has k then counted
  else
    let flagged := (counted.onFaults l fun r =>
      r.flag { kind := k, epoch := epoch, sequence := sequence, tick := s.tickCount }).offerLog
        { tick := s.tickCount, link := l, kind := k, epoch := epoch, sequence := sequence }
    flagged.judgePending l (s.isPending l)

/-- A tolerated duplicate raises the counters whose source is REPLAY and does nothing else (R141). -/
def State.toleratedDuplicate (s : State) (l : Link) : State := s.onFaults l fun r => r.countKind .replay

/-! ## Root store -/

/-- The image of a write of an entry, taken from the live view (R84). -/
def RootEntry.image (r : RootEntry) : RootImage :=
  { contents := r.contents, ceiling := r.ceiling, inCounter := r.inCounter }

/-- An entry joins the tail of the NV write queue unless it is there (R84). -/
def State.joinNvQueue (s : State) (e : EntryNo) : State :=
  if e ∈ s.nvQueue then s else { s with nvQueue := s.nvQueue ++ [e] }

/-- A write of an entry is requested (R84). -/
def State.requestWrite (s : State) (e : EntryNo) : State :=
  match s.nvWrite with
  | none => s.joinNvQueue e
  | some w => if w.entry = e then { s with nvWrite := some { w with again := true } } else s.joinNvQueue e

/-- The write of the head entry starts when the memory is free (R84). -/
def State.startWrite (s : State) : State :=
  match s.nvWrite, s.nvQueue with
  | none, e :: _ =>
    { s with nvWrite := some { entry := e, image := (s.root e).image, again := false }
             rootReplies := s.rootReplies.map fun r => if r.entry = e then { r with covered := true } else r }
  | none, [] => s
  | some _, _ => s

/-- The root store's answers to a request for a counter (R79). -/
inductive CounterAnswer where
  | ready
  | raising
  | worn
deriving DecidableEq, Repr

/-- The answer an entry gives (R79). -/
def RootEntry.answer (r : RootEntry) : CounterAnswer :=
  if maxWord ≤ r.outCounter then .worn
  else if r.outCounter + 1 ≤ r.stored.ceiling then .ready
  else .raising

/-- The ceiling raised by 16 from S and a write requested, unless a raise is queued already (R79). -/
def State.raiseCeiling (s : State) (e : EntryNo) : State :=
  if (s.root e).ceiling < (s.root e).outCounter + 1 then
    (s.setRoot e { s.root e with ceiling := min ((s.root e).stored.ceiling + 16) maxWord }).requestWrite e
  else s

/-! ## Jobs -/

/-- A job joins the tail of its link's list (R54). -/
def State.append (s : State) (j : Job) : State := { s with pool := s.pool ++ [j] }

/-- The first job of a link's list (R55). -/
def State.firstJob (s : State) (l : Link) : Option Job := s.pool.find? fun j => decide (j.link = l)

/-- The first member of a list that satisfies `p` changed. -/
def changeFirst {α : Type} (p : α → Bool) (f : α → α) : List α → List α
  | [] => []
  | x :: rest => if p x then f x :: rest else x :: changeFirst p f rest

/-- The first job of a link's list changed. -/
def State.onFirst (s : State) (l : Link) (f : Job → Job) : State :=
  { s with pool := changeFirst (fun j => decide (j.link = l)) f s.pool }

/-- The first job of a link's list removed; its pool entry and any reservation are free (R54). -/
def State.removeFirst (s : State) (l : Link) : State :=
  { s with pool := s.pool.eraseP fun j => decide (j.link = l) }

/-- Whether a job is in a lane. -/
def Job.isIn (j : Job) (lane : Lane) : Bool := decide (j.state = .inLane lane)

/-- The job in a lane (R57). -/
def State.laneJob (s : State) (lane : Lane) : Option Job := s.pool.find? fun j => j.isIn lane

/-- The job in a lane removed; the lane is free (R57). -/
def State.removeLane (s : State) (lane : Lane) : State := { s with pool := s.pool.eraseP fun j => j.isIn lane }

/-- The counter an outbound root job is concerned with: its entry and where its claim stands (R56). -/
def Work.claim : Work → Option (EntryNo × CounterClaim)
  | .offer root _ c => some (root.entry, c)
  | .ask root _ c => some (root.entry, c)
  | .encipher .. => none
  | .beat .. => none
  | .proof .. => none
  | .decipherTraffic .. => none
  | .decipherRoot .. => none

/-- An outbound root job's claim changed (R56). -/
def Work.withClaim (c : CounterClaim) : Work → Work
  | .offer root text _ => .offer root text c
  | .ask root reason _ => .ask root reason c
  | .encipher tag slot sequence payload => .encipher tag slot sequence payload
  | .beat slot sequence => .beat slot sequence
  | .proof slot sequence => .proof slot sequence
  | .decipherTraffic tag slot record => .decipherTraffic tag slot record
  | .decipherRoot tag root record => .decipherRoot tag root record

/-- A job with its claim changed. -/
def Job.withClaim (c : CounterClaim) (j : Job) : Job := { j with work := j.work.withClaim c }

/-- The entry a WAITING job is about to ask a counter of: an outbound root job that has not asked yet (R56). -/
def Job.asks (j : Job) : Option EntryNo :=
  match j.state, j.work.claim with
  | .waiting, some (e, .unasked) => some e
  | _, _ => none

/-- An OFFER job. -/
def Work.isOffer : Work → Bool
  | .offer .. => true
  | _ => false

/-- An ASK job. -/
def Work.isAsk : Work → Bool
  | .ask .. => true
  | _ => false

/-- The WAITING jobs of a link of one sort withdrawn: no frame, no report (R99). -/
def State.withdraw (s : State) (l : Link) (sort : Work → Bool) : State :=
  { s with pool := s.pool.filter fun j => !(decide (j.link = l) && decide (j.state = .waiting) && sort j.work) }

/-- The binding of the root jobs of a link: its bound root entry with a copy of the key (R30). -/
def State.rootBinding (s : State) (l : Link) : Option RootBinding :=
  match s.entry l with
  | none => none
  | some e =>
    match (s.root e.rootEntry).contents with
    | none => none
    | some c => some { entry := e.rootEntry, key := c.key }

/-- A slot's copy for a job (R30). -/
def KeySlot.binding (k : KeySlot) (role : SlotRole) : SlotBinding :=
  { role := role, epoch := k.epoch, key := k.key, salt := k.salt }

/-! ## The control requests that are due -/

/-- IDLE and RESTING, in which a trigger begins a round (R91, R92). -/
def RenewalState.isOpen : RenewalState → Bool
  | .idle => true
  | .resting => true
  | .preparing => false
  | .offered => false
  | .asking => false
  | .asked => false
  | .proved => false

/-- The events of a link that make a control request: the expiries of its timers, and the requests of the tick. -/
inductive ControlClaim where
  | beat (link : Link)
  | preparing (link : Link)
  | asking (link : Link)
  | retry (link : Link)
  | confirm (link : Link)
  | offerTimer (link : Link)
  | askTimer (link : Link)
  | restTimer (link : Link)
  | renewalTimer (link : Link)
  | silence (link : Link)
deriving DecidableEq, Repr

/-- The events of one link. -/
def ControlClaim.ofLink (l : Link) : List ControlClaim :=
  [.beat l, .preparing l, .asking l, .retry l, .confirm l, .offerTimer l, .askTimer l, .restTimer l, .renewalTimer l,
   .silence l]

/-- The link of an event. -/
def ControlClaim.link : ControlClaim → Link
  | .beat l => l
  | .preparing l => l
  | .asking l => l
  | .retry l => l
  | .confirm l => l
  | .offerTimer l => l
  | .askTimer l => l
  | .restTimer l => l
  | .renewalTimer l => l
  | .silence l => l

/-- Whether a context's request of this tick is due while it is in this state. -/
def State.claimsIn (s : State) (l : Link) (state : RenewalState) : Bool :=
  (s.renewal l).claimDue && decide ((s.renewal l).state = state)

/-- Whether a context's owed retry is due (R95, R98). -/
def State.retryDue (s : State) (l : Link) : Bool :=
  (s.claimsIn l .offered || s.claimsIn l .asked) && (s.renewal l).retryOwed

/-- Whether a hub's confirming BEAT of this tick is due (R104). -/
def State.confirmDue (s : State) (l : Link) : Bool := (s.renewal l).confirmDue && (s.renewal l).confirmOwed

/-- Whether a context's step timer has expired in this state. -/
def State.stepExpired (s : State) (l : Link) (state : RenewalState) : Bool :=
  decide ((s.renewal l).state = state) && decide ((s.renewal l).stepTimer = .expiring)

/-- Whether tries remain at an expiry of the offer or ask timer (R95, R98). -/
def State.triesRemain (s : State) (l : Link) (e : LinkEntry) : Bool :=
  decide ((s.renewal l).triesUsed < e.policy.offerTries)

/-- Whether a rest expiry begins a new round: the link holds no CURRENT or the due mark is set (R102). -/
def State.restRenews (s : State) (l : Link) : Bool := (s.keySet l).current.isNone || (s.renewal l).dueMark

/-- Whether a silence expiry is an entry into HUNT (R130, R131). -/
def LinkEntry.entersHunt (e : LinkEntry) : Bool := decide (e.state = .up) || decide (e.state = .failing)

/-- Whether the event is due at this moment and makes a control request (R146): a BEAT; an OFFER or ASK of a waiting
context; an owed retry; a confirming BEAT; a retry for an expired offer or ask timer with tries left; the OFFER or ASK of
a round that begins at the expiry of a rest or renewal timer, or at a silence expiry under rekey_on_loss. -/
def State.isDue (s : State) : ControlClaim → Bool
  | .beat l => (s.entry l).any fun e => decide (e.beatTimer = .expiring)
  | .preparing l => s.claimsIn l .preparing
  | .asking l => s.claimsIn l .asking
  | .retry l => s.retryDue l
  | .confirm l => s.confirmDue l
  | .offerTimer l => s.stepExpired l .offered && (s.entry l).any (s.triesRemain l)
  | .askTimer l => s.stepExpired l .asked && (s.entry l).any (s.triesRemain l)
  | .restTimer l => s.stepExpired l .resting && s.restRenews l && (s.entry l).isSome
  | .renewalTimer l =>
    decide ((s.renewal l).renewalTimer = .expiring) && (s.renewal l).state.isOpen && (s.entry l).isSome
  | .silence l => (s.renewal l).state.isOpen &&
    (s.entry l).any fun e => decide (e.silenceTimer = .expiring) && e.entersHunt && e.policy.rekeyOnLoss

/-- The events that are due and make a control request, lowest link first. -/
def State.dueClaims (s : State) : List ControlClaim :=
  (List.finRange 64).flatMap fun l => (ControlClaim.ofLink l).filter s.isDue

/-- An unsolicited slot has been released inside a command. The owed set takes it at once (R145); where control requests
are due at the same moment it may be left to them instead (R146), and what is then still free when the command ends is
given out there (`State.serveFreed`; notes/assumptions/10.md). -/
def State.serveReleased (s : State) : State :=
  if s.owed.isEmpty || !s.unsolicitedFree then s
  else if s.dueClaims.isEmpty then s.serveOwed
  else if s.choice 2 = 0 then s.chosen.serveOwed
  else s.chosen

/-! ## The end of a round, and the counter of a first job -/

/-- A round fails (R101): RENEW-FAIL, a hub's NEXT erased, and the context RESTING. -/
def State.failRound (s : State) (l : Link) : State :=
  match s.entry l with
  | none => s
  | some e =>
    let failed := s.occurrence l .renewFail none none
    let erased := match e.role with
      | .hub => failed.setKeys l { failed.keySet l with next := none }
      | .shop => failed
    erased.onRenewal l fun c =>
      { c with state := .resting, stepTimer := .running e.policy.restTicks, retryOwed := false, claimDue := false }

/-- The report that an outbound root job of the round was removed for a worn entry (R67, R101). -/
def State.wornRoot (s : State) (l : Link) : State :=
  match (s.renewal l).state with
  | .offered => s.failRound l
  | .asked => s.failRound l
  | .idle => s
  | .preparing => s
  | .asking => s
  | .proved => s
  | .resting => s

/-- The first job of a link's list asks for its counter, if it is an outbound root job that has not asked (R56,
R79). A worn answer removes it, releases its slot, ends the round, and makes the next job first
(R67; DEDUCED, unsafe: notes/assumptions/10.md); `fuel` bounds the jobs of the list. -/
def askFirst : Nat → Link → State → State
  | 0, _, s => s
  | fuel + 1, l, s =>
    match (s.firstJob l).bind Job.asks with
    | none => s
    | some e =>
      match (s.root e).answer with
      | .ready => s.onFirst l (Job.withClaim .ready)
      | .raising => (s.onFirst l (Job.withClaim .raising)).raiseCeiling e
      | .worn => askFirst fuel l (((s.removeFirst l).serveReleased).wornRoot l)

/-- A link's list has gained a first job (R56). -/
def State.settleFirst (s : State) (l : Link) : State := askFirst (s.pool.length + 1) l s

/-! ## OFFER and ASK requests, rounds and triggers -/

/-- The checks of a control request for room: the pool and an unsolicited slot (R65). -/
def State.controlRoom (s : State) : Bool := decide (s.pool.length < Config.poolSize) && s.unsolicitedFree

/-- The checks of a host job for room: fewer than 28 host jobs, and a pool of fewer than 32 (R52; DEDUCED,
unsafe: notes/assumptions/9.md). -/
def State.hostRoom (s : State) : Bool :=
  decide (s.hostJobs < Config.hostShare) && decide (s.pool.length < Config.poolSize)

/-- The epoch of a new hub NEXT (R20). -/
def KeySet.offerEpoch (k : KeySet) : Nat :=
  match k.current with
  | some c => nextEpoch c.epoch
  | none => 1

/-- A hub's NEXT is created with a key and salt of the random source (R18, R21). -/
def State.createNext (s : State) (l : Link) : State :=
  match s.entry l with
  | none => s
  | some e =>
    { s.setKeys l { s.keySet l with
        next := some (newSlot e.policy (s.keySet l).offerEpoch (Config.randomKey s.draws)
          (Config.randomSalt s.draws) s.tickCount) } with draws := s.draws + 1 }

/-- An OFFER job joins its link's list with the fields of NEXT; its fresh mark is 1 when the link holds no
CURRENT (R13, R20, R30). -/
def State.appendOffer (s : State) (l : Link) : State :=
  match s.rootBinding l, (s.keySet l).next with
  | some root, some n =>
    s.append { link := l, state := .waiting,
               work := .offer root { epoch := n.epoch, fresh := (s.keySet l).current.isNone, key := n.key,
                                     salt := n.salt } .unasked }
  | _, _ => s

/-- An ASK job joins its link's list with the round reason (R97). -/
def State.appendAsk (s : State) (l : Link) : State :=
  match s.rootBinding l, (s.renewal l).roundReason with
  | some root, some reason => s.append { link := l, state := .waiting, work := .ask root reason .unasked }
  | _, _ => s

/-- A hub in PREPARING requests its OFFER; at its acceptance the NEXT is created (R93). -/
def State.requestOffer (s : State) (l : Link) : State :=
  if s.controlRoom then
    (((s.createNext l).appendOffer l).onRenewal l fun c =>
      { c with state := .offered, triesUsed := 1, claimDue := false }).settleFirst l
  else s

/-- A hub in OFFERED requests a retried OFFER (R95). -/
def State.retryOffer (s : State) (l : Link) : State :=
  if s.controlRoom then
    ((s.appendOffer l).onRenewal l fun c =>
      { c with triesUsed := c.triesUsed + 1, retryOwed := false }).settleFirst l
  else s.onRenewal l fun c => { c with retryOwed := true }

/-- A shop in ASKING requests its ASK (R97). -/
def State.requestAsk (s : State) (l : Link) : State :=
  if s.controlRoom then
    ((s.appendAsk l).onRenewal l fun c =>
      { c with state := .asked, triesUsed := 1, claimDue := false }).settleFirst l
  else s

/-- A shop in ASKED requests a retried ASK (R98). -/
def State.retryAsk (s : State) (l : Link) : State :=
  if s.controlRoom then
    ((s.appendAsk l).onRenewal l fun c =>
      { c with triesUsed := c.triesUsed + 1, retryOwed := false }).settleFirst l
  else s.onRenewal l fun c => { c with retryOwed := true }

/-- A round begins: PREPARING with an OFFER requested at a hub, ASKING with an ASK requested at a shop
(R91, R92, R102). -/
def State.startRound (s : State) (l : Link) : State :=
  match s.entry l with
  | none => s
  | some e =>
    match e.role with
    | .hub =>
      (s.onRenewal l fun c => { c with state := .preparing, triesUsed := 0, retryOwed := false,
                                       stepTimer := .stopped, claimDue := false }).requestOffer l
    | .shop =>
      (s.onRenewal l fun c => { c with state := .asking, triesUsed := 0, retryOwed := false,
                                       stepTimer := .stopped, claimDue := false }).requestAsk l

/-- A trigger with a reason is taken (R90, R91, R92). -/
def State.trigger (s : State) (l : Link) (reason : Reason) : State :=
  if (s.renewal l).state.isOpen then
    (s.onRenewal l fun c => { c with lastReason := some reason, roundReason := some reason }).startRound l
  else s.onRenewal l fun c => { c with lastReason := some reason }

/-! ## Outbound traffic jobs -/

/-- The role of a link's outbound slot (R23). -/
def State.outboundRole (s : State) (l : Link) : SlotRole :=
  match s.entry l with
  | none => .current
  | some e =>
    match e.role with
    | .hub => .current
    | .shop => if (s.renewal l).state = .proved then .next else .current

/-- A link's outbound slot (R23). -/
def State.outboundSlot (s : State) (l : Link) : Option KeySlot := (s.keySet l).slot (s.outboundRole l)

/-- The soft crossing test after a charge to the slot of a role (R43, R44). -/
def State.softCross (s : State) (l : Link) (role : SlotRole) : State :=
  match (s.keySet l).slot role with
  | none => s
  | some k =>
    if (decide (role = s.outboundRole l) || decide (role = .current)) && k.crosses then
      (s.setKeys l ((s.keySet l).withSlot role (some { k with softCrossed := true }))).trigger l .wear
    else s

/-- The link supervisor and the renewal controller are told of an outbound traffic record accepted: a running beat
timer reloads (R132) and the confirm-owed mark clears (R104). -/
def State.outboundAccepted (s : State) (l : Link) : State :=
  (s.onEntry l fun e => { e with
      beatTimer := if e.beatTimer.isOn then beatLoad e.policy.beatTicks else e.beatTimer }).onRenewal l
    fun c => { c with confirmOwed := false, confirmDue := false }

/-- An outbound traffic job of n bytes is accepted under the outbound slot: the charge, the job with its copy and
sequence, the reports, and the soft crossing test, in this order (R38, R59, R65; DEDUCED, unsafe:
notes/assumptions/18.md). -/
def State.acceptOutbound (s : State) (l : Link) (k : KeySlot) (n : Nat) (work : SlotBinding → Nat → Work) : State :=
  let role := s.outboundRole l
  ((((s.setKeys l ((s.keySet l).withSlot role (some (k.chargeOut n)))).append
      { link := l, state := .waiting, work := work (k.binding role) (k.outSequence + 1) }).outboundAccepted l).softCross
        l role)

/-- An outbound record is refused for wear: SPENT with the refusing slot's epoch, and a SPENT trigger in IDLE or
RESTING (R40). -/
def State.refuseForWear (s : State) (l : Link) (k : KeySlot) : State :=
  let reported := s.occurrence l .spent (some k.epoch) none
  if (s.renewal l).state.isOpen then reported.trigger l .spent else reported

/-- The engine's answers to a request for a BEAT or PROOF (R65). -/
inductive ControlAnswer where
  | accepted
  | noRoom
  | noKey
  | spent
deriving DecidableEq, Repr

/-- The answer to a request for a BEAT or PROOF on a link (R65). -/
def State.controlAnswer (s : State) (l : Link) : ControlAnswer :=
  if s.controlRoom then
    match s.outboundSlot l with
    | none => .noKey
    | some k => if k.canProtect 0 then .accepted else .spent
  else .noRoom

/-- What the engine does at a request for a BEAT or PROOF: the job is accepted, or a refusal for wear has its
effects, or nothing (R65). -/
def State.requestTraffic (s : State) (l : Link) (work : SlotBinding → Nat → Work) : State :=
  match s.outboundSlot l with
  | none => s
  | some k =>
    match s.controlAnswer l with
    | .accepted => s.acceptOutbound l k 0 work
    | .spent => s.refuseForWear l k
    | .noRoom => s
    | .noKey => s

/-- A shop requests a PROOF (R100). -/
def State.requestProof (s : State) (l : Link) : State := s.requestTraffic l .proof

/-- A hub requests its confirming BEAT; one refused for room is a BEAT-SKIP (R104). -/
def State.requestConfirm (s : State) (l : Link) : State :=
  match s.controlAnswer l with
  | .noRoom => s.occurrence l .beatSkip none none
  | .accepted => s.requestTraffic l .beat
  | .noKey => s.requestTraffic l .beat
  | .spent => s.requestTraffic l .beat

/-! ## Expiries and the requests of a tick -/

/-- The beat timer of a link expires (R133). -/
def State.takeBeatExpiry (s : State) (l : Link) (e : LinkEntry) : State :=
  let reload (t : State) : State := t.onEntry l fun e' => { e' with beatTimer := beatLoad e.policy.beatTicks }
  match s.controlAnswer l with
  | .accepted => s.requestTraffic l .beat
  | .noRoom => reload (s.occurrence l .beatSkip none none)
  | .spent => reload (s.requestTraffic l .beat)
  | .noKey => s.onEntry l fun e' => { e' with beatTimer := .stopped }

/-- The beat timer expires (R133). -/
def State.expireBeat (s : State) (l : Link) : State :=
  match s.entry l with
  | none => s
  | some e => if e.beatTimer = .expiring then s.takeBeatExpiry l e else s

/-- The expired step timer stops. -/
def State.stopStep (s : State) (l : Link) : State := s.onRenewal l fun c => { c with stepTimer := .stopped }

/-- A hub's offer timer expires: a retried OFFER is requested or the round fails (R95). -/
def State.expireOffer (s : State) (l : Link) : State :=
  match s.entry l with
  | none => s
  | some e =>
    if s.stepExpired l .offered then
      if s.triesRemain l e then (s.stopStep l).retryOffer l else (s.stopStep l).failRound l
    else s

/-- A shop's ask timer expires: a retried ASK is requested or the round fails (R98). -/
def State.expireAsk (s : State) (l : Link) : State :=
  match s.entry l with
  | none => s
  | some e =>
    if s.stepExpired l .asked then
      if s.triesRemain l e then (s.stopStep l).retryAsk l else (s.stopStep l).failRound l
    else s

/-- The rest timer expires: a new round where the link holds no CURRENT or the due mark is set, else IDLE (R102). -/
def State.expireRest (s : State) (l : Link) : State :=
  if s.stepExpired l .resting then
    if s.restRenews l then s.startRound l
    else s.onRenewal l fun c => { c with state := .idle, stepTimer := .stopped }
  else s

/-- The renewal timer expires: DUE or OVERDUE with CURRENT's epoch, the reload, and a DUE trigger (R107). -/
def State.expireRenewal (s : State) (l : Link) : State :=
  match s.entry l with
  | none => s
  | some e =>
    if (s.renewal l).renewalTimer = .expiring then
      let kind := if (s.renewal l).dueMark then FaultKind.overdue else .due
      let reported := (s.onRenewal l fun c => { c with dueMark := true }).occurrence l kind
        ((s.keySet l).current.map KeySlot.epoch) none
      (reported.onRenewal l fun c => { c with renewalTimer := .running e.policy.renewTicks }).trigger l .due
    else s

/-- The entry after a silence expiry: reloaded, and from UP or FAILING in HUNT with both counts 0 (R130). -/
def LinkEntry.silent (e : LinkEntry) : LinkEntry :=
  match e.state with
  | .keyless => { e with silenceTimer := .running e.policy.silenceTicks }
  | .hunt => { e with silenceTimer := .running e.policy.silenceTicks }
  | .up => { e with state := .hunt, goodCount := 0, badCount := 0, silenceTimer := .running e.policy.silenceTicks }
  | .failing =>
    { e with state := .hunt, goodCount := 0, badCount := 0, silenceTimer := .running e.policy.silenceTicks }

/-- The silence timer expires (R130, R131). -/
def State.expireSilence (s : State) (l : Link) : State :=
  match s.entry l with
  | none => s
  | some e =>
    if e.silenceTimer = .expiring then
      let reported := (s.setEntry l (some e.silent)).occurrence l .silent none none
      if e.entersHunt && e.policy.rekeyOnLoss then reported.trigger l .loss else reported
    else s

/-- A waiting context makes its OFFER or ASK request of the tick (R93, R97, R95, R98). -/
def State.takeClaim (s : State) (l : Link) : State :=
  let taken := s.onRenewal l fun c => { c with claimDue := false }
  match (s.renewal l).state with
  | .preparing => taken.requestOffer l
  | .asking => taken.requestAsk l
  | .offered => taken.retryOffer l
  | .asked => taken.retryAsk l
  | .idle => taken
  | .proved => taken
  | .resting => taken

/-- A hub in PREPARING makes its request of the tick (R93). -/
def State.takePreparing (s : State) (l : Link) : State := if s.claimsIn l .preparing then s.takeClaim l else s

/-- A shop in ASKING makes its request of the tick (R97). -/
def State.takeAsking (s : State) (l : Link) : State := if s.claimsIn l .asking then s.takeClaim l else s

/-- A context with the retry-owed mark makes its request of the tick (R95, R98). -/
def State.takeRetry (s : State) (l : Link) : State := if s.retryDue l then s.takeClaim l else s

/-- A confirm-owed context makes its request of the tick (R104). -/
def State.takeConfirm (s : State) (l : Link) : State :=
  if s.confirmDue l then (s.onRenewal l fun c => { c with confirmDue := false }).requestConfirm l else s

/-! ## Contested slots -/

/-- An event that makes a control request is taken. -/
def State.takeControlClaim (s : State) : ControlClaim → State
  | .beat l => s.expireBeat l
  | .preparing l => s.takePreparing l
  | .asking l => s.takeAsking l
  | .retry l => s.takeRetry l
  | .confirm l => s.takeConfirm l
  | .offerTimer l => s.expireOffer l
  | .askTimer l => s.expireAsk l
  | .restTimer l => s.expireRest l
  | .renewalTimer l => s.expireRenewal l
  | .silence l => s.expireSilence l

/-- The lowest owed link takes a free slot (R145). -/
def State.serveLowest (s : State) : State :=
  match s.owed with
  | [] => s
  | l :: rest => { s with owed := rest }.placeNotice l

/-- One claim on a free slot is taken: the n-th of these control requests, or beyond them that of the lowest owed link
(R146). -/
def State.serveOne (s : State) (claims : List ControlClaim) (n : Nat) : State :=
  match claims[n]? with
  | some c => s.takeControlClaim c
  | none => s.serveLowest

/-- How many claims can be taken on the slots freed at one event: ten of each link and its NOTICE. -/
abbrev claimBound : Nat := 11 * 64

/-- Free unsolicited slots given out one claim at a time: while a link is owed, a slot is free and control requests
are due, the next is a due control request or the lowest owed link, as the part does not fix (R146, R180);
`fuel` bounds the claims. -/
def serveContested : Nat → State → State
  | 0, s => s.serveOwed
  | fuel + 1, s =>
    match s.owed, s.dueClaims with
    | [], _ => s
    | _ :: _, [] => s.serveOwed
    | _ :: _, c :: cs =>
      if s.unsolicitedFree then
        serveContested fuel (s.chosen.serveOne (c :: cs) (s.choice ((c :: cs).length + 1)))
      else s

/-- Unsolicited slots have become free between ticks or at one: they serve the owed set, but where control requests
are due at the same moment either claim may be taken first (R145, R146, R180). -/
def State.serveFreed (s : State) : State := serveContested claimBound s

/-- The due control requests of the other links. -/
def State.otherClaims (s : State) (l : Link) : List ControlClaim := s.dueClaims.filter fun c => decide (c.link ≠ l)

/-- A control request of a link made at an event that has freed unsolicited slots: while a link is owed and a slot is
free, the next claim taken is this request, a due control request of another link, or that of the lowest owed link, as the
part does not fix (R146); `fuel` bounds the claims. -/
def contestSlots (l : Link) (request : State → State) : Nat → State → State
  | 0, s => request s
  | fuel + 1, s =>
    if !s.owed.isEmpty && s.unsolicitedFree then
      let others := s.otherClaims l
      if s.choice (others.length + 2) = others.length + 1 then request s.chosen
      else contestSlots l request fuel (s.chosen.serveOne others (s.choice (others.length + 2)))
    else request s

/-- A control request of a link made at an event that may have freed slots by a withdrawal: it contests them with the
owed links and with the control requests due at the same moment, and what it leaves serves the owed set (R99, R103,
R145, R146). -/
def State.contest (s : State) (l : Link) (request : State → State) : State :=
  if !s.owed.isEmpty && s.unsolicitedFree then (contestSlots l request claimBound s).serveReleased else request s

/-! ## Verdicts and the loss of CURRENT -/

/-- The link enters HUNT by loss of lock: LOSS, and a LOSS trigger under rekey_on_loss (R127, R131). -/
def State.loseLock (s : State) (l : Link) (e : LinkEntry) : State :=
  let lost := (s.setEntry l (some { e with state := .hunt, goodCount := 0, badCount := 0 })).occurrence
    l .loss none none
  if e.policy.rekeyOnLoss then lost.trigger l .loss else lost

/-- A good verdict (R124, R125, R126, R127, R129). -/
def LinkEntry.good (e : LinkEntry) : LinkEntry :=
  match e.state with
  | .keyless => e
  | .hunt =>
    if e.policy.lockIn ≤ e.goodCount + 1 then
      { e with state := .up, goodCount := 0, silenceTimer := .running e.policy.silenceTicks }
    else { e with goodCount := e.goodCount + 1, silenceTimer := .running e.policy.silenceTicks }
  | .up => { e with silenceTimer := .running e.policy.silenceTicks }
  | .failing => { e with state := .up, badCount := 0, silenceTimer := .running e.policy.silenceTicks }

/-- The link supervisor takes a good verdict (R123). -/
def State.goodVerdict (s : State) (l : Link) : State := s.onEntry l LinkEntry.good

/-- Whether a bad verdict loses lock: it reaches lock_out in UP or FAILING (R126, R127). -/
def LinkEntry.losesLock (e : LinkEntry) : Bool :=
  match e.state with
  | .keyless => false
  | .hunt => false
  | .up => decide (e.policy.lockOut ≤ 1)
  | .failing => decide (e.policy.lockOut ≤ e.badCount + 1)

/-- A bad verdict that does not lose lock (R124, R125, R126, R127). -/
def LinkEntry.bad (e : LinkEntry) : LinkEntry :=
  match e.state with
  | .keyless => e
  | .hunt => { e with goodCount := 0 }
  | .up => { e with state := .failing, badCount := 1 }
  | .failing => { e with badCount := e.badCount + 1 }

/-- The link supervisor takes a bad verdict (R123). -/
def State.badVerdict (s : State) (l : Link) : State :=
  match s.entry l with
  | none => s
  | some e => if e.losesLock then s.loseLock l e else s.setEntry l (some e.bad)

/-- The link has lost its CURRENT: the renewal timer stops, and the link returns to KEYLESS with its counts 0 and
its silence timer stopped (R29, R106, R128). -/
def State.loseCurrent (s : State) (l : Link) : State :=
  (s.onEntry l fun e => { e with state := .keyless, goodCount := 0, badCount := 0, silenceTimer := .stopped }).onRenewal
    l fun c => { c with renewalTimer := .stopped }

/-! ## Promotion and installation -/

/-- The renewal context at the report of a promotion (R103, R105). -/
def RenewalContext.promoted (c : RenewalContext) (renewTicks : Nat) : RenewalContext :=
  { c with state := .idle, dueMark := false, stepTimer := .stopped, retryOwed := false, claimDue := false,
           renewalTimer := .running renewTicks }

/-- The link table entry at a promotion: a KEYLESS link enters HUNT, and the beat timer starts where an outbound
slot appears (R25, R29, R124, R132). -/
def LinkEntry.promoted (e : LinkEntry) (hadOutbound : Bool) : LinkEntry :=
  { e with state := if e.state = .keyless then .hunt else e.state
           beatTimer := if hadOutbound then e.beatTimer else beatLoad e.policy.beatTicks }

/-- The key set of a link is promoted, and the link supervisor and the renewal controller take it
(R24, R25, R103, R105). -/
def State.promote (s : State) (l : Link) (e : LinkEntry) : State :=
  let moved := (s.setKeys l ((s.keySet l).promote e.policy.graceTicks)).setEntry l
    (some (e.promoted (s.outboundSlot l).isSome))
  match e.role with
  | .shop => moved.onRenewal l fun c => c.promoted e.policy.renewTicks
  | .hub =>
    let told := moved.onRenewal l fun c => { c.promoted e.policy.renewTicks with confirmOwed := true }
    (told.withdraw l Work.isOffer).contest l (State.requestConfirm · l)

/-- Whether the installation of an OFFER takes the link's CURRENT away (R22, R29). -/
def KeySet.losesCurrent (k : KeySet) (how : Installation) : Bool := decide (how = .replaceAll) && k.current.isSome

/-- The key table installs or keeps a shop's NEXT from a released OFFER, with the reports that follow
(R22, R29, R132). -/
def State.installOffer (s : State) (l : Link) (e : LinkEntry) (t : OfferText) : State :=
  let how := (s.keySet l).installation t
  let slotted := s.setKeys l ((s.keySet l).install how t.epoch (newSlot e.policy t.epoch t.key t.salt s.tickCount))
  let lost := if (s.keySet l).losesCurrent how then slotted.loseCurrent l else slotted
  if (s.renewal l).state = .proved then lost
  else if (s.outboundSlot l).isNone || (s.keySet l).losesCurrent how then
    lost.onEntry l fun e' => { e' with beatTimer := beatLoad e.policy.beatTicks }
  else lost

/-- A shop takes a valid OFFER at its release (R99, R100). A stale one changes nothing. -/
def State.validOffer (s : State) (l : Link) (t : OfferText) : State :=
  match s.entry l with
  | none => s
  | some e =>
    if (s.keySet l).installation t = .stale then s
    else
      let proved := (s.installOffer l e t).onRenewal l fun c =>
        { c with state := .proved, stepTimer := .stopped, retryOwed := false, claimDue := false }
      (proved.withdraw l Work.isAsk).contest l (State.requestProof · l)

/-! ## DECIPHER replies -/

/-- The outcomes of a DECIPHER with the reason of a drop as its code (R179). -/
inductive DecipherOutcome where
  | delivered (payload : List Byte)
  | consumed
  | dropped (reason : Nat)
deriving DecidableEq, Repr

/-- The reason code of a tolerated duplicate (R179). -/
abbrev duplicateReason : Nat := 13

/-- The fields of a DECIPHER reply after its status (R62, R175, R176). -/
def decipherFields (l : Link) (record : List Byte) (o : DecipherOutcome) : List Byte :=
  let header := [recordKindByte record, recordEpochByte record] ++ recordSequenceBytes record
  match o with
  | .delivered payload => [numberByte l, 0] ++ header ++ payload
  | .consumed => [numberByte l, 1] ++ header
  | .dropped reason => [numberByte l, 2, byteOf reason] ++ header

/-- The reply of a DECIPHER request with this tag. -/
def decipherReply (tag : Byte) (l : Link) (record : List Byte) (o : DecipherOutcome) : OutFrame :=
  replyFrame tag 0x31 .ok (decipherFields l record o)

/-! ## HELD records and NV writes -/

/-- A HELD root record acts (R64, R96, R99). -/
def State.releaseActs (s : State) (l : Link) : RootContent → State
  | .offer t => s.validOffer l t
  | .ask reason => (s.onRenewal l fun c => { c with lastAskReason := some reason }).trigger l reason

/-- The first job of a link, HELD, is released: it acts, its reply is placed, and it is removed (R64). -/
def State.release (s : State) (l : Link) (tag : Byte) (record : List Byte) (content : RootContent) : State :=
  (((s.releaseActs l content).place (decipherReply tag l record .consumed)).removeFirst l).settleFirst l

/-- The root store reports a completed write to the record engine: the first job of the bound link becomes ready,
or is released (R79, R83, R85). -/
def State.reportWrite (s : State) (e : EntryNo) : State :=
  match (s.root e).bound with
  | none => s
  | some l =>
    match s.firstJob l with
    | none => s
    | some j =>
      match j.state, j.work with
      | .held content, .decipherRoot tag _ record =>
        if recordSequence record ≤ (s.root e).stored.inCounter then s.release l tag record content else s
      | .waiting, work =>
        match work.claim with
        | some (_, .raising) =>
          if (s.root e).outCounter + 1 ≤ (s.root e).stored.ceiling then s.onFirst l (Job.withClaim .ready) else s
        | _ => s
      | _, _ => s

/-- The replies a completed write of an entry carries are placed, in the order their requests were taken (R85). -/
def State.placeRootReplies (s : State) (e : EntryNo) : State :=
  { s with output := s.output ++ (s.rootReplies.filter fun r => decide (r.entry = e) && r.covered).map fun r =>
             replyFrame r.tag r.kind .ok [numberByte e]
           rootReplies := s.rootReplies.filter fun r => !(decide (r.entry = e) && r.covered) }

/-- The stored image becomes the image a write carried (R85). -/
def State.landWrite (s : State) (w : NvWrite) : State :=
  s.setRoot w.entry { s.root w.entry with stored := w.image }

/-- A write completes: the image lands, the entry leaves the queue or goes to its tail, the record engine is told,
replies are placed, and the next write starts (R85); slots left free go to the owed set and what contests them
(R145, R146). -/
def State.finishWrite (s : State) (w : NvWrite) : State :=
  let landed := { s.landWrite w with
    nvWrite := none
    nvQueue := s.nvQueue.tail ++ if w.again then [w.entry] else [] }
  ((landed.reportWrite w.entry).placeRootReplies w.entry).startWrite.serveFreed

/-! ## Restart -/

/-- A write in progress ends with the old image or the new one (R86). -/
def State.cutWrite (s : State) : State :=
  match s.nvWrite with
  | none => s
  | some w =>
    if s.choice 2 = 0 then { s.chosen with nvWrite := none } else { s.chosen.landWrite w with nvWrite := none }

/-- A root entry at a restart: the live fields are set from the stored image (R87). -/
def RootEntry.restarted (r : RootEntry) : RootEntry :=
  { stored := r.stored, contents := r.stored.contents, ceiling := r.stored.ceiling,
    outCounter := r.stored.ceiling, inCounter := r.stored.inCounter, bound := none }

/-- Every block at a restart (R167): the state after reset, but for what survives one: the stored images (R87), the
identity (R73), the levels of the supply and the reset input, and the model's own fields (notes/assumptions/22.md). -/
def State.wiped (s : State) (cause : RestartCause) : State :=
  { State.reset with
    pending := s.pending
    powered := s.powered
    resetLow := s.resetLow
    starting := s.starting
    roots := s.roots.each RootEntry.restarted
    identity := s.identity
    cause := cause
    draws := s.draws
    choices := s.choices
    protections := s.protections }

/-- A restart (R167). -/
def State.restart (s : State) (cause : RestartCause) : State := s.cutWrite.wiped cause

/-! ## Commands -/

/-- The outcome of a command that does `f`: a part held in restart or without its supply takes none (R168;
DESIGN CHOICE: notes/assumptions/20.md), and a starting part takes none until its start-up has ended, which it may have
done before this command (R168; DESIGN CHOICE: notes/assumptions/14.md). -/
def act (f : State → State) (s : State) : Host.Outcome State Fault Refusal :=
  .next (if s.operating then f s
    else if s.startingUp then (if s.choice 2 = 0 then s.chosen else f { s.chosen with starting := false })
    else s)

/-- The request at the head of the queue, when it is of this kind, is taken: its entry becomes free and the owner
of the kind acts on it (R161). Where no such request stands at the head, the event does not come about
(DESIGN CHOICE, safe: notes/assumptions/1.md). -/
def takeRequest (kind : Byte) (f : Request → State → State) (s : State) : State :=
  match s.requests with
  | [] => s
  | r :: rest => if r.kind = kind then f r { s with requests := rest } else s

/-- A request that names a link in its body is refused for it: NO-LINK with the byte as written (R175). -/
def State.noLink (s : State) (r : Request) (l : Byte) : State := s.reply r .noLink [l]

/-- The request's link number, when it is 0–63 and the link is attached. -/
def State.attachedLink (s : State) (l : Byte) : Option (Link × LinkEntry) :=
  match numberOf l with
  | none => none
  | some link => (s.entry link).map (link, ·)

/-- A request whose body is a link number alone, on an attached link: BAD-FORM, NO-LINK, or `f` (R171). -/
def onAttached (f : Request → Link → LinkEntry → State → State) (r : Request) (s : State) : State :=
  match linkBodyOf r.body with
  | none => s.reply r .badForm []
  | some b =>
    match s.attachedLink b with
    | none => s.noLink r b
    | some (l, e) => f r l e s

end Sys2Proof.Machine
end

