-- ==== Sys2Proof/Machine/Faults.lean ====
section
/-! DEFINITION. The fault monitor's requests (chapter 8). -/

namespace Sys2Proof.Machine

open Sys2Proof

/-- An optional epoch or sequence as bytes, none where it is absent. -/
def optionBytes (w : Nat) : Option Nat → List Byte
  | none => []
  | some n => beBytes w n

/-- The capture's fields: presence, kind and tick, epoch, sequence (R175). -/
def captureFields : Option Capture → List Byte
  | none => [0]
  | some c =>
    [bitsByte true c.epoch.isSome c.sequence.isSome, byteOf c.kind.code] ++ beBytes 4 c.tick ++
      optionBytes 1 c.epoch ++ optionBytes 4 c.sequence

/-- A counter's source and value (R175). -/
def counterFields (c : FaultCounter) : List Byte := byteOf c.source.code :: beBytes 2 c.value

/-- The fields of FAULT-READ's reply (R150, R175). -/
def State.faultReadFields (s : State) (l : Link) : List Byte :=
  let r := s.faultRecord l
  [numberByte l] ++ faultSetBytes r.flags ++ faultSetBytes r.enabled ++ beBytes 2 r.stamp ++
    captureFields r.capture ++ counterFields r.counterA ++ counterFields r.counterB ++
    [bitsByte (s.isPending l) r.noticeSent (decide (l ∈ s.owed))]

/-- FAULT-READ taken (R150). -/
def takeFaultRead (r : Request) (s : State) : State :=
  onAttached (fun r l _ s => s.reply r .ok (s.faultReadFields l)) r s

/-- FAULT-READ (R150). -/
def execFaultRead (s : State) : Host.Outcome State Fault Refusal := act (takeRequest 0x40 takeFaultRead) s

/-- The link, flags and stamp of a FAULT-CLEAR reply, OK or CHANGED (R151, R175). -/
def State.clearFields (s : State) (l : Link) : List Byte :=
  numberByte l :: faultSetBytes (s.faultRecord l).flags ++ beBytes 2 (s.faultRecord l).stamp

/-- The flags of a mask removed, and the pending state judged again (R151). -/
def State.clearFaults (s : State) (l : Link) (mask : FaultSet) : State :=
  (s.onFaults l fun r => r.clear mask).judgePending l (s.isPending l)

/-- FAULT-CLEAR on an attached link (R151). -/
def State.faultClear (s : State) (r : Request) (l : Link) (mask : FaultSet) (expected : Option Nat) : State :=
  if expected.any fun n => decide (n ≠ (s.faultRecord l).stamp) then s.reply r .changed (s.clearFields l)
  else (s.clearFaults l mask).reply r .ok ((s.clearFaults l mask).clearFields l)

/-- FAULT-CLEAR taken (R151). -/
def takeFaultClear (r : Request) (s : State) : State :=
  match faultClearBodyOf r.body with
  | none => s.reply r .badForm []
  | some (b, mask, expected) =>
    match s.attachedLink b with
    | none => s.noLink r b
    | some (l, _) => s.faultClear r l mask expected

/-- FAULT-CLEAR (R151). -/
def execFaultClear (s : State) : Host.Outcome State Fault Refusal := act (takeRequest 0x41 takeFaultClear) s

/-- The enable mask replaced, and the pending state judged again (R153). -/
def State.enableFaults (s : State) (l : Link) (mask : FaultSet) : State :=
  (s.onFaults l fun r => { r with enabled := mask }).judgePending l (s.isPending l)

/-- FAULT-ENABLE taken (R153). -/
def takeFaultEnable (r : Request) (s : State) : State :=
  match faultEnableBodyOf r.body with
  | none => s.reply r .badForm []
  | some (b, mask) =>
    match s.attachedLink b with
    | none => s.noLink r b
    | some (l, _) =>
      (s.enableFaults l mask).reply r .ok
        (b :: faultSetBytes mask ++ [bitByte ((s.enableFaults l mask).isPending l)])

/-- FAULT-ENABLE (R153). -/
def execFaultEnable (s : State) : Host.Outcome State Fault Refusal := act (takeRequest 0x42 takeFaultEnable) s

/-- A counter after COUNTER-SET: a source given is taken and zeroes it, zero alone keeps the source, neither changes
nothing (R154). -/
def FaultCounter.set (c : FaultCounter) (source : Option FaultKind) (zero : Bool) : FaultCounter :=
  match source with
  | some k => { source := k, value := 0 }
  | none => if zero then { c with value := 0 } else c

/-- Counter A or B of a record. -/
def FaultRecord.counter (r : FaultRecord) (second : Bool) : FaultCounter := if second then r.counterB else r.counterA

/-- Counter A or B of a record replaced. -/
def FaultRecord.withCounter (r : FaultRecord) (second : Bool) (c : FaultCounter) : FaultRecord :=
  if second then { r with counterB := c } else { r with counterA := c }

/-- COUNTER-SET on an attached link (R154). -/
def State.counterSet (s : State) (r : Request) (l : Link) (b : CounterSetBody) : State :=
  let before := (s.faultRecord l).counter b.second
  let after := before.set b.source b.zero
  (s.onFaults l fun f => f.withCounter b.second after).reply r .ok
    ([numberByte l, bitByte b.second] ++ beBytes 2 before.value ++ [byteOf after.source.code] ++
      beBytes 2 after.value)

/-- COUNTER-SET taken (R154). -/
def takeCounterSet (r : Request) (s : State) : State :=
  match counterSetBodyOf r.body with
  | none => s.reply r .badForm []
  | some b =>
    match s.attachedLink b.link with
    | none => s.noLink r b.link
    | some (l, _) => s.counterSet r l b

/-- COUNTER-SET (R154). -/
def execCounterSet (s : State) : Host.Outcome State Fault Refusal := act (takeRequest 0x43 takeCounterSet) s

/-- The links whose pending state a new notice mode may change, judged lowest first; `before` is the part before the
change (R149). -/
def judgeLinks (before : State) : List Link → State → State
  | [], s => s
  | l :: rest, s => judgeLinks before rest (s.judgePending l (before.isPending l))

/-- The notice mode set (R149). -/
def State.setMode (s : State) (m : NoticeMode) : State := judgeLinks s (List.finRange 64) { s with noticeMode := m }

/-- NOTICE-MODE taken (R149). -/
def takeNoticeMode (r : Request) (s : State) : State :=
  match noticeModeBodyOf r.body with
  | none => s.reply r .badForm []
  | some (.plain m) => (s.setMode m).reply r .ok m.bytes
  | some (.one b) =>
    match numberOf b with
    | none => s.noLink r b
    | some l => (s.setMode (.one l)).reply r .ok (NoticeMode.bytes (.one l))

/-- NOTICE-MODE (R149). -/
def execNoticeMode (s : State) : Host.Outcome State Fault Refusal := act (takeRequest 0x44 takeNoticeMode) s

/-- A log entry in LOG-READ's reply (R175). -/
def logFields (x : LogEntry) : List Byte :=
  beBytes 4 x.tick ++ [numberByte x.link, byteOf x.kind.code, bitsByte x.epoch.isSome x.sequence.isSome false] ++
    optionBytes 1 x.epoch ++ optionBytes 4 x.sequence

/-- The oldest entries removed and returned with the lost count, which becomes 0 (R156). -/
def State.drainLog (s : State) (r : Request) (n : Nat) : State :=
  { s with log := s.log.drop n, lost := 0 }.reply r .ok
    (byteOf (s.log.take n).length :: beBytes 2 s.lost ++ (s.log.take n).flatMap logFields)

/-- LOG-READ taken (R156). -/
def takeLogRead (r : Request) (s : State) : State :=
  match logReadBodyOf r.body with
  | none => s.reply r .badForm []
  | some n => s.drainLog r n

/-- LOG-READ (R156). -/
def execLogRead (s : State) : Host.Outcome State Fault Refusal := act (takeRequest 0x45 takeLogRead) s

end Sys2Proof.Machine
end

