-- ==== Sys2Proof/Machine/Links.lean ====
section
/-! DEFINITION. The link supervisor's requests (chapter 7), KEY-READ (R33) and RENEW (R108). -/

namespace Sys2Proof.Machine

open Sys2Proof

/-- OK, or CLAMPED when a field was clamped (R116). -/
def clampStatus (items : List PolicyItem) : Status := if (clampedFields items).isEmpty then .ok else .clamped

/-- The count and the numbers of the clamped fields (R175). -/
def clampFields (items : List PolicyItem) : List Byte :=
  byteOf (clampedFields items).length :: (clampedFields items).map byteOf

/-- The link table entry ATTACH makes (R118, steps 1 to 3). -/
def attachedEntry (e : EntryNo) (c : RootContents) (items : List PolicyItem) : LinkEntry :=
  { state := .keyless, rootEntry := e, shopNumber := c.shopNumber, role := c.role,
    policy := Policy.default.writeAll items, goodCount := 0, badCount := 0, beatTimer := .stopped,
    silenceTimer := .stopped }

/-- An accepted ATTACH: the binding, the entry, the fault record, and the START trigger (R118, steps 1 to 5). -/
def State.attachLink (s : State) (l : Link) (e : EntryNo) (c : RootContents) (items : List PolicyItem) : State :=
  ((((s.setRoot e { s.root e with bound := some l }).setEntry l (some (attachedEntry e c items))).setFaults l
    FaultRecord.initial).trigger l .start)

/-- ATTACH taken (R117, R118). -/
def takeAttach (r : Request) (s : State) : State :=
  match attachBodyOf r.body with
  | none => s.reply r .badForm []
  | some (b, e, items) =>
    match numberOf b with
    | none => s.noLink r b
    | some l =>
      if (s.entry l).isSome then s.reply r .notClosed [b]
      else
        match (s.root e).contents with
        | none => s.reply r .noRoot [b]
        | some c =>
          if (s.root e).bound.isSome then s.reply r .rootInUse [b]
          else
            ((s.attachLink l e c items).reply r (clampStatus items)
              ([b, c.role.code] ++ clampFields items)).serveFreed

/-- ATTACH (R117, R118). -/
def execAttach (s : State) : Host.Outcome State Fault Refusal := act (takeRequest 0x20 takeAttach) s

/-- The tag and kind of the request a host job answers. -/
def Work.request : Work → Option (Byte × Byte)
  | .encipher tag .. => some (tag, 0x30)
  | .decipherTraffic tag .. => some (tag, 0x31)
  | .decipherRoot tag .. => some (tag, 0x31)
  | .beat .. => none
  | .proof .. => none
  | .offer .. => none
  | .ask .. => none

/-- The ABORTED reply of a host job of a link (R70). -/
def abortedReply (l : Link) (j : Job) : Option OutFrame :=
  j.work.request.map fun (tag, kind) => replyFrame tag kind .aborted [numberByte l]

/-- Every job of a link removed, each host job answered ABORTED in acceptance order (R70). -/
def State.abortJobs (s : State) (l : Link) : State :=
  { s with pool := s.pool.filter fun j => !decide (j.link = l)
           output := s.output ++ (s.pool.filter fun j => decide (j.link = l)).filterMap (abortedReply l) }

/-- What every block drops at a DETACH, and then the owed set served from the freed slots (R119). -/
def State.detachLink (s : State) (l : Link) (e : LinkEntry) : State :=
  let dropped := ((((s.abortJobs l).setKeys l KeySet.empty).setRenewal l RenewalContext.initial).setFaults l
    FaultRecord.initial)
  let unbound := ({ dropped with owed := dropped.owed.filter fun x => decide (x ≠ l) }.setRoot e.rootEntry
    { dropped.root e.rootEntry with bound := none }).setEntry l none
  unbound.serveFreed

/-- DETACH taken (R119). -/
def takeDetach (r : Request) (s : State) : State :=
  onAttached (fun r l e s => (s.detachLink l e).reply r .ok [numberByte l]) r s

/-- DETACH (R119). -/
def execDetach (s : State) : Host.Outcome State Fault Refusal := act (takeRequest 0x21 takeDetach) s

/-- The beat timer at a POLICY: it stops when beat_ticks becomes 0, starts when it leaves 0 with an outbound slot,
and keeps its remainder otherwise (R121). -/
def beatAfterPolicy (timer : Timer) (before after : Nat) (hasOutbound : Bool) : Timer :=
  if after = 0 then .stopped
  else if before = 0 then (if hasOutbound then .running after else .stopped)
  else timer

/-- The entry with the given policy fields written (R120, R121). -/
def LinkEntry.withPolicy (e : LinkEntry) (items : List PolicyItem) (hasOutbound : Bool) : LinkEntry :=
  { e with policy := e.policy.writeAll items
           beatTimer := beatAfterPolicy e.beatTimer e.policy.beatTicks (e.policy.writeAll items).beatTicks
             hasOutbound }

/-- POLICY taken (R120, R121). -/
def takePolicy (r : Request) (s : State) : State :=
  match policyBodyOf r.body with
  | none => s.reply r .badForm []
  | some (b, items) =>
    match s.attachedLink b with
    | none => s.noLink r b
    | some (l, e) =>
      (s.setEntry l (some (e.withPolicy items (s.outboundSlot l).isSome))).reply r (clampStatus items)
        (b :: clampFields items)

/-- POLICY (R120). -/
def execPolicy (s : State) : Host.Outcome State Fault Refusal := act (takeRequest 0x22 takePolicy) s

/-- The code of the running step timer: offer 1, ask 2, rest 3, stopped 0 (R170). -/
def RenewalContext.stepKind (c : RenewalContext) : Byte :=
  if c.stepTimer.isOn then
    match c.state with
    | .offered => 1
    | .asked => 2
    | .resting => 3
    | .idle => 0
    | .preparing => 0
    | .asking => 0
    | .proved => 0
  else 0

/-- The fields of LINK-READ's reply for an attached link (R122, R175). -/
def linkReadFields (l : Link) (e : LinkEntry) (c : RenewalContext) : List Byte :=
  [numberByte l, e.state.code, numberByte e.rootEntry] ++ beBytes 4 e.shopNumber.toNat ++
    [e.role.code, byteOf e.goodCount, byteOf e.badCount] ++ beBytes 2 e.beatTimer.remainder ++
    beBytes 2 e.silenceTimer.remainder ++ e.policy.values.flatMap (beBytes 4) ++
    [c.state.code, byteOf c.triesUsed, c.stepKind] ++ beBytes 2 c.stepTimer.remainder ++
    beBytes 4 c.renewalTimer.remainder ++
    [bitsByte c.dueMark c.retryOwed c.confirmOwed, reasonByte c.roundReason, reasonByte c.lastReason,
     reasonByte c.lastAskReason]

/-- LINK-READ taken (R122). -/
def takeLinkRead (r : Request) (s : State) : State :=
  match linkBodyOf r.body with
  | none => s.reply r .badForm []
  | some b =>
    match numberOf b with
    | none => s.noLink r b
    | some l =>
      match s.entry l with
      | none => s.reply r .ok [b, 0]
      | some e => s.reply r .ok (linkReadFields l e (s.renewal l))

/-- LINK-READ (R122). -/
def execLinkRead (s : State) : Host.Outcome State Fault Refusal := act (takeRequest 0x23 takeLinkRead) s

/-- A tick count less an earlier one, modulo 4,294,967,296 (R33). -/
def tickAge (now created : Nat) : Nat := (now + 4294967296 - created) % 4294967296

/-- A slot's entry in KEY-READ's reply (R33, R175). -/
def slotFields (now : Nat) (role : SlotRole) (k : KeySlot) (grace : Timer) : List Byte :=
  [role.code, byteOf k.epoch] ++ beBytes 4 k.outSequence ++ beBytes 4 k.protectedBlocks ++
    beBytes 4 k.openedBlocks ++ beBytes 4 k.wearLimit ++ beBytes 4 k.softThreshold ++ [bitByte k.softCrossed] ++
    beBytes 4 k.window.high ++ beBytes 4 (tickAge now k.creationTick) ++
    (match role with
     | .next => []
     | .current => []
     | .previous => beBytes 2 grace.remainder)

/-- The occupied slots in the order NEXT, CURRENT, PREVIOUS (R33). -/
def KeySet.occupied (k : KeySet) : List (SlotRole × KeySlot) :=
  [SlotRole.next, .current, .previous].filterMap fun role => (k.slot role).map (role, ·)

/-- The fields of KEY-READ's reply (R33, R175). The NEXT that a link in KEYLESS may hold (R124) is counted and reported
like any occupied slot, though R33 also says that such a link answers with a slot count of 0 (DEDUCED, unsafe:
notes/assumptions/25.md). -/
def keyReadFields (now : Nat) (l : Link) (k : KeySet) : List Byte :=
  [numberByte l, byteOf k.occupied.length] ++ k.occupied.flatMap fun (role, slot) => slotFields now role slot k.grace

/-- KEY-READ taken (R33). -/
def takeKeyRead (r : Request) (s : State) : State :=
  onAttached (fun r l _ s => s.reply r .ok (keyReadFields s.tickCount l (s.keySet l))) r s

/-- KEY-READ (R33). -/
def execKeyRead (s : State) : Host.Outcome State Fault Refusal := act (takeRequest 0x24 takeKeyRead) s

/-- An accepted RENEW: a HOST trigger, and a reply with the state it left (R108). That state is RESTING where the OFFER
or ASK accepted at this event is at once removed for a worn entry, which R108 does not name among its four
(DEDUCED, unsafe: notes/assumptions/24.md). -/
def State.renewLink (s : State) (r : Request) (l : Link) : State :=
  ((s.trigger l .host).reply r .ok [numberByte l, ((s.trigger l .host).renewal l).state.code]).serveFreed

/-- RENEW taken (R108). -/
def takeRenew (r : Request) (s : State) : State :=
  onAttached (fun r l _ s =>
    if (s.renewal l).state.isOpen then s.renewLink r l else s.reply r .busy [numberByte l]) r s

/-- RENEW (R108). -/
def execRenew (s : State) : Host.Outcome State Fault Refusal := act (takeRequest 0x25 takeRenew) s

end Sys2Proof.Machine
end

