-- ==== Sys2Proof/Machine/Port.lean ====
section
/-! DEFINITION. The message port (chapter 9): frame arrival, the read transaction, and the requests the port answers
itself. -/

namespace Sys2Proof.Machine

open Sys2Proof

/-- An admitted frame joins the tail of the request queue, which reserves its reply's slot (R160). -/
def State.admitRequest (s : State) (r : Request) : State := { s with requests := s.requests ++ [r] }

/-- The judgement of the bytes of a write transaction (R160): frame checks, RESTART, room, admission. -/
def State.judgeFrame (s : State) (bytes : List Byte) : State :=
  match parseFrame bytes with
  | none => { s with frameErrors := min (s.frameErrors + 1) maxHalf }
  | some r =>
    if r.kind = restartKind then s.restart .commanded
    else if s.ready then s.admitRequest r
    else { s with overruns := min (s.overruns + 1) maxHalf }

/-- The kinds of transactions of the port. -/
inductive Transaction where
  | write
  | read
  | other
deriving DecidableEq, Repr

/-- A transaction is what its lead byte makes it: 0xA6 a write, 0x59 a read; any other has no effect (R157). -/
def transactionOf (lead : Byte) : Transaction :=
  if lead = writeLead then .write else if lead = readLead then .read else .other

/-- The end of a transaction in which these bytes were shifted in: the bytes behind the lead byte of a write are judged,
and a write that ends after it, a poll of the status byte and every other transaction deliver nothing (R157, R160). -/
def State.endTransaction (s : State) (bytes : List Byte) : State :=
  match bytes with
  | [] => s
  | lead :: rest =>
    match transactionOf lead with
    | .write => if rest.isEmpty then s else s.judgeFrame rest
    | .read => s
    | .other => s

/-- FRAME_ARRIVAL (R157, R160). The frame is judged by the part as it is at the transaction's end: one whose transaction
began while the reset input was low, or within the start-up, and ended after it is judged whole (R168 leaves it open;
DESIGN CHOICE, unsafe: notes/assumptions/26.md). -/
def execFrameArrival (bytes : List Byte) (s : State) : Host.Outcome State Fault Refusal :=
  act (fun s => s.endTransaction bytes) s

/-- The frame a read transaction sends, chosen at its lead byte (R163). -/
def State.chooseFrame (s : State) : Reading :=
  match s.output with
  | [] => { bytes := emptyFrame, isHead := false }
  | f :: _ => { bytes := f.bytes, isHead := true }

/-- The lead byte of a transaction: a read chooses its frame, and in every other transaction the part shifts out no
frame (R157, R163). -/
def State.beginTransaction (s : State) (lead : Byte) : State :=
  match transactionOf lead with
  | .read => { s with reading := some s.chooseFrame }
  | .write => { s with reading := none }
  | .other => { s with reading := none }

/-- READ_LEAD_BYTE (R163). A read whose lead byte is received by an operating part chooses its frame, also where select
fell while the reset input was low or within the start-up (R168 leaves it open; DESIGN CHOICE, unsafe:
notes/assumptions/26.md). -/
def execReadLeadByte (s : State) : Host.Outcome State Fault Refusal := act (fun s => s.beginTransaction readLead) s

/-- The head frame leaves the output queue; the unsolicited slot it filled serves what waits for it (R162, R163). -/
def State.removeHead (s : State) : State :=
  match s.output with
  | [] => s
  | f :: rest => if f.isUnsolicited then { s with output := rest }.serveFreed else { s with output := rest }

/-- The end of a read transaction in which `shifted` bytes followed the lead byte (R163). -/
def State.endRead (s : State) (shifted : Nat) : State :=
  match s.reading with
  | none => s
  | some r =>
    if r.isHead && decide (r.bytes.length ≤ shifted) then { s with reading := none }.removeHead
    else { s with reading := none }

/-- READ_END (R163). -/
def execReadEnd (shifted : Nat) (s : State) : Host.Outcome State Fault Refusal :=
  act (fun s => s.endRead shifted) s

/-- The occupied entries of the live view (R73). -/
def State.occupiedRoots (s : State) : Nat := s.roots.count fun r => r.contents.isSome

/-- The fields of HELLO's reply (R164, R175). -/
def State.helloFields (s : State) : List Byte :=
  beBytes 2 0x4A40 ++ [s.identity.revision] ++ beBytes 4 s.identity.serialNumber.toNat ++ [s.cause.code] ++
    beBytes 4 s.tickCount ++ [byteOf s.occupiedRoots]

/-- HELLO taken (R164). -/
def takeHello (r : Request) (s : State) : State :=
  if r.body.isEmpty then { s with fresh := false }.reply r .ok s.helloFields else s.reply r .badForm []

/-- HELLO (R164). -/
def execHello (s : State) : Host.Outcome State Fault Refusal := act (takeRequest 0x01 takeHello) s

/-- The fields of STATUS's reply (R165, R175). The count of request-owned slots includes the one of the STATUS
request itself, which has left the queue and is answered at this event. -/
def State.statusFields (s : State) : List Byte :=
  beBytes 4 s.tickCount ++ [byteOf (s.links.count Option.isSome), byteOf s.hostJobs, byteOf s.controlJobs,
    byteOf (s.requestOwnedInUse + 1), byteOf s.unsolicitedInUse, byteOf s.nvQueue.length] ++
    beBytes 2 s.frameErrors ++ beBytes 2 s.overruns

/-- STATUS taken (R165). -/
def takeStatus (r : Request) (s : State) : State :=
  if r.body.isEmpty then s.reply r .ok s.statusFields else s.reply r .badForm []

/-- STATUS (R165). -/
def execStatus (s : State) : Host.Outcome State Fault Refusal := act (takeRequest 0x02 takeStatus) s

/-- The reply to a request of unknown kind: kind 0x80, the status, and the kind that was written (R161, R175). -/
def unknownKindReply (r : Request) : OutFrame :=
  { share := .requestOwned, tag := r.tag, kind := 0x80, body := [Status.code .unknownKind, r.kind] }

/-- A request of none of the twenty kinds taken from the head of the queue (R161). -/
def State.takeUnknown (s : State) : State :=
  match s.requests with
  | [] => s
  | r :: rest => if r.kind ∈ requestKinds then s else { s with requests := rest }.place (unknownKindReply r)

/-- UNKNOWN_KIND (R161). -/
def execUnknownKind (s : State) : Host.Outcome State Fault Refusal := act State.takeUnknown s

end Sys2Proof.Machine
end

