-- ==== Sys2Proof/Machine/Records.lean ====
section
/-! DEFINITION. The record engine's requests, grants and completions (chapter 4). -/

namespace Sys2Proof.Machine

open Sys2Proof

/-! ## ENCIPHER and DECIPHER -/

/-- ENCIPHER taken (R59): well formed, attached, an outbound slot, room, and the wear charge, in this order. -/
def takeEncipher (r : Request) (s : State) : State :=
  match encipherBodyOf r.body with
  | none => s.reply r .badForm []
  | some (b, payload) =>
    match s.attachedLink b with
    | none => s.noLink r b
    | some (l, _) =>
      match s.outboundSlot l with
      | none => s.reply r .noKey [b]
      | some k =>
        if !s.hostRoom then s.reply r .full [b]
        else if k.canProtect payload.length then
          (s.acceptOutbound l k payload.length fun slot sequence => .encipher r.tag slot sequence payload).serveFreed
        else ((s.refuseForWear l k).reply r .spent [b]).serveFreed

/-- ENCIPHER (R59). -/
def execEncipher (s : State) : Host.Outcome State Fault Refusal := act (takeRequest 0x30 takeEncipher) s

/-- A record dropped at its header check (R15). The occurrence is taken before the reply is placed, and so is, but for a
root kind, the bad verdict with the LOSS and the trigger it may bring, which R15 does not place beside the reply (DEDUCED,
unsafe: notes/assumptions/11.md). Where the verdict reports LOSS beside the drop's own occurrence, either of the two may
be reported first (R142; DEDUCED, safe: notes/assumptions/11.md). -/
def State.dropAtHeader (s : State) (r : Request) (l : Link) (e : LinkEntry) (record : List Byte) (k : FaultKind) :
    State :=
  let epoch := if 12 ≤ record.length then some (recordEpoch record) else none
  let sequence := if 12 ≤ record.length then some (recordSequence record) else none
  let rootKind := (recordKindOf (recordKindByte record)).any RecordKind.isRoot
  let judged :=
    if rootKind then s.occurrence l k epoch sequence
    else if e.losesLock then
      if s.choice 2 = 0 then (s.chosen.occurrence l k epoch sequence).badVerdict l
      else (s.chosen.badVerdict l).occurrence l k epoch sequence
    else (s.occurrence l k epoch sequence).badVerdict l
  (judged.place (decipherReply r.tag l record (.dropped k.code))).serveFreed

/-- A DECIPHER that passed its header checks becomes a host job, or is refused with FULL (R61). -/
def State.acceptDecipher (s : State) (r : Request) (l : Link) (work : Work) : State :=
  if s.hostRoom then s.append { link := l, state := .waiting, work := work }
  else s.reply r .full [numberByte l]

/-- The header checks of a record and what follows (R15, R61). -/
def State.checkHeader (s : State) (r : Request) (l : Link) (e : LinkEntry) (record : List Byte) : State :=
  if headerMalformed e.role e.shopNumber record then s.dropAtHeader r l e record .form
  else if (recordKindOf (recordKindByte record)).any RecordKind.isRoot then
    match s.rootBinding l with
    | none => s.dropAtHeader r l e record .form
    | some root => s.acceptDecipher r l (.decipherRoot r.tag root record)
  else
    match (s.keySet l).find fun k => k.epoch == recordEpoch record with
    | none => s.dropAtHeader r l e record .epoch
    | some role =>
      match (s.keySet l).slot role with
      | none => s.dropAtHeader r l e record .epoch
      | some k => s.acceptDecipher r l (.decipherTraffic r.tag (k.binding role) record)

/-- DECIPHER taken (R61). -/
def takeDecipher (r : Request) (s : State) : State :=
  match decipherBodyOf r.body with
  | none => s.reply r .badForm []
  | some (b, record) =>
    match s.attachedLink b with
    | none => s.noLink r b
    | some (l, e) => s.checkHeader r l e record

/-- DECIPHER (R61). -/
def execDecipher (s : State) : Host.Outcome State Fault Refusal := act (takeRequest 0x31 takeDecipher) s

/-! ## The arbiter -/

/-- Whether a first job is eligible (R55). -/
def Job.isEligible (j : Job) : Bool :=
  decide (j.state = .waiting) &&
    match j.work.claim with
    | none => true
    | some (_, c) => decide (c = .ready)

/-- Whether a link has an eligible job, its first (R55). -/
def State.eligible (s : State) (l : Link) : Bool := (s.firstJob l).any Job.isEligible

/-- The link the arbiter takes: the first with an eligible job in the order pointer + 1, …, pointer (R58). -/
def State.nextLink (s : State) : Option Link :=
  ((List.finRange 64).map fun i => s.pointer + 1 + i).find? s.eligible

/-- The counter an outbound root job takes at its grant, and L with it (R56). -/
def State.takeCounter (s : State) (l : Link) : State :=
  match (s.firstJob l).bind fun j => j.work.claim with
  | none => s
  | some (e, _) =>
    (s.onFirst l (Job.withClaim (.taken ((s.root e).outCounter + 1)))).setRoot e
      { s.root e with outCounter := (s.root e).outCounter + 1 }

/-- The first job of a link granted to a lane (R58). -/
def State.grantLink (s : State) (lane : Lane) (l : Link) : State :=
  { (s.takeCounter l).onFirst l (fun j => { j with state := .inLane lane }) with pointer := l }

/-- A free lane handed to the eligible job next in round-robin order (R58). -/
def State.grant (s : State) (lane : Lane) : State :=
  match s.laneJob lane, s.nextLink with
  | none, some l => s.grantLink lane l
  | none, none => s
  | some _, _ => s

/-- GRANT (R58). -/
def execGrant (lane : Lane) (s : State) : Host.Outcome State Fault Refusal := act (fun s => s.grant lane) s

/-! ## Completions -/

/-- The job in a lane is removed, and the next job of its link becomes first (R54, R57); slots left free go to the owed
set and what contests them (R145, R146). -/
def State.finishLane (s : State) (lane : Lane) (l : Link) : State := ((s.removeLane lane).settleFirst l).serveFreed

/-- What a protection is made under and of: key, nonce, header and payload (R5). -/
structure Seal where
  key : Key
  nonce : Nonce
  header : List Byte
  payload : List Byte
deriving DecidableEq, Repr

/-- The protected record (R5). -/
def Seal.record (x : Seal) : List Byte := protect x.key x.nonce x.header x.payload

/-- The protection made (R5). -/
def Seal.protection (x : Seal) : Protection := protectionOf x.key x.nonce x.header x.payload

/-- The part has made this protection (the model's own record: notes/assumptions/7.md). -/
def State.sealing (s : State) (x : Seal) : State := { s with protections := s.protections ++ [x.protection] }

/-- A traffic record under a job's copy (R8, R10, R31, R60, R66). -/
def trafficSeal (e : LinkEntry) (kind : RecordKind) (slot : SlotBinding) (sequence : Nat) (payload : List Byte) : Seal :=
  { key := slot.key, nonce := nonceOf slot.salt e.role.outbound sequence
    header := headerBytes kind slot.epoch e.shopNumber sequence payload.length, payload := payload }

/-- A root record under a job's copy of the root key (R9, R66). -/
def rootSeal (e : LinkEntry) (kind : RecordKind) (root : RootBinding) (counter : Nat) (plaintext : List Byte) : Seal :=
  { key := root.key, nonce := rootNonce e.role.outbound counter
    header := headerBytes kind 0 e.shopNumber counter plaintext.length, payload := plaintext }

/-- The ENCIPHERED reply (R60, R175). -/
def encipheredReply (tag : Byte) (l : Link) (slot : SlotBinding) (sequence : Nat) (x : Seal) : OutFrame :=
  replyFrame tag 0x30 .ok ([numberByte l, byteOf slot.epoch] ++ beBytes 4 sequence ++ x.record)

/-- The ENCIPHER job in a lane completes (R60). -/
def State.completeEncipher (s : State) (lane : Lane) : State :=
  match s.laneJob lane with
  | none => s
  | some j =>
    match s.entry j.link, j.work with
    | some e, .encipher tag slot sequence payload =>
      let x := trafficSeal e .data slot sequence payload
      ((s.sealing x).place (encipheredReply tag j.link slot sequence x)).finishLane lane j.link
    | _, _ => s

/-- ENCIPHER_COMPLETION (R60). -/
def execEncipherCompletion (lane : Lane) (s : State) : Host.Outcome State Fault Refusal :=
  act (fun s => s.completeEncipher lane) s

/-- A verified record is accepted: its sequence enters the window, its blocks are charged, the soft crossing test
follows, a record under NEXT promotes, and the verdict is good (R42, R47, R62). -/
def State.acceptInbound (s : State) (l : Link) (e : LinkEntry) (role : SlotRole) (k : KeySlot)
    (record : List Byte) : State :=
  let charged := { k.chargeIn (recordLength record) with window := k.window.accept (recordSequence record) }
  let crossed := (s.setKeys l ((s.keySet l).withSlot role (some charged))).softCross l role
  let promoted := if role = .next then crossed.promote l e else crossed
  promoted.goodVerdict l

/-- A verified or failed record is dropped at completion: a bad verdict, then the occurrence (R62). -/
def State.dropInbound (s : State) (l : Link) (k : FaultKind) (record : List Byte) : State :=
  (s.badVerdict l).occurrence l k (some (recordEpoch record)) (some (recordSequence record))

/-- A duplicate under the policy in force at the completion (R48). -/
def State.dropDuplicate (s : State) (l : Link) (e : LinkEntry) (record : List Byte) : State :=
  match e.policy.duplicates with
  | .strict => s.dropInbound l .replay record
  | .tolerant => s.toleratedDuplicate l

/-- The reason a duplicate is answered with (R48, R179). -/
def duplicateOutcome : Duplicates → DecipherOutcome
  | .strict => .dropped FaultKind.replay.code
  | .tolerant => .dropped duplicateReason

/-- DELIVERED with its payload for DATA, CONSUMED for BEAT and PROOF (R47). -/
def acceptedOutcome (record payload : List Byte) : DecipherOutcome :=
  if recordKindByte record = RecordKind.data.code then .delivered payload else .consumed

/-- The traffic judgements of R16 and R62 on a record bound to a slot: what the part does and how it answers. -/
def State.judgeTraffic (s : State) (l : Link) (e : LinkEntry) (slot : SlotBinding) (record : List Byte) :
    State × DecipherOutcome :=
  match openRecord s.protections slot.key (nonceOf slot.salt e.role.inbound (recordSequence record)) record with
  | none => (s.dropInbound l .tag record, .dropped FaultKind.tag.code)
  | some payload =>
    match (s.keySet l).find fun k => k.epoch == recordEpoch record && k.key == slot.key with
    | none => (s.dropInbound l .epoch record, .dropped FaultKind.epoch.code)
    | some role =>
      match (s.keySet l).slot role with
      | none => (s.dropInbound l .epoch record, .dropped FaultKind.epoch.code)
      | some k =>
        match k.window.judge (recordSequence record) with
        | .accepted => (s.acceptInbound l e role k record, acceptedOutcome record payload)
        | .duplicate => (s.dropDuplicate l e record, duplicateOutcome e.policy.duplicates)
        | .late => (s.dropInbound l .late record, .dropped FaultKind.late.code)

/-- The traffic DECIPHER job in a lane completes (R62). -/
def State.completeTraffic (s : State) (lane : Lane) : State :=
  match s.laneJob lane with
  | none => s
  | some j =>
    match s.entry j.link, j.work with
    | some e, .decipherTraffic tag slot record =>
      ((s.judgeTraffic j.link e slot record).1.place
        (decipherReply tag j.link record (s.judgeTraffic j.link e slot record).2)).finishLane lane j.link
    | _, _ => s

/-- TRAFFIC_DECIPHER_COMPLETION (R62). -/
def execTrafficDecipherCompletion (lane : Lane) (s : State) : Host.Outcome State Fault Refusal :=
  act (fun s => s.completeTraffic lane) s

/-- The judgements of a root record (R16, R63). -/
inductive RootJudgement where
  | drop (kind : FaultKind)
  | hold (content : RootContent)
deriving DecidableEq, Repr

/-- Tag, plaintext, counter, in this order (R16, R63, R82). -/
def State.judgeRoot (s : State) (e : LinkEntry) (root : RootBinding) (record : List Byte) : RootJudgement :=
  match openRecord s.protections root.key (rootNonce e.role.inbound (recordSequence record)) record with
  | none => .drop .tag
  | some plaintext =>
    match rootContentOf e.role plaintext with
    | none => .drop .form
    | some content =>
      if recordSequence record ≤ (s.root root.entry).inCounter then .drop .rootReplay else .hold content

/-- A root record is dropped: its occurrence with epoch 0 and its counter, its reply, and its removal (R63). -/
def State.dropRoot (s : State) (lane : Lane) (l : Link) (tag : Byte) (record : List Byte) (k : FaultKind) : State :=
  ((s.occurrence l k (some 0) (some (recordSequence record))).place
    (decipherReply tag l record (.dropped k.code))).finishLane lane l

/-- A root record enters HELD: the live in-counter takes its counter, a write is requested, the lane is free
(R63, R82). -/
def State.holdRoot (s : State) (lane : Lane) (e : EntryNo) (record : List Byte) (content : RootContent) : State :=
  let held := { s with pool := changeFirst (fun j => j.isIn lane) (fun j => { j with state := .held content }) s.pool }
  (held.setRoot e { s.root e with inCounter := recordSequence record }).requestWrite e

/-- The root DECIPHER job in a lane completes (R63). -/
def State.completeRoot (s : State) (lane : Lane) : State :=
  match s.laneJob lane with
  | none => s
  | some j =>
    match s.entry j.link, j.work with
    | some e, .decipherRoot tag root record =>
      match s.judgeRoot e root record with
      | .drop k => s.dropRoot lane j.link tag record k
      | .hold content => s.holdRoot lane root.entry record content
    | _, _ => s

/-- ROOT_DECIPHER_COMPLETION (R63). -/
def execRootDecipherCompletion (lane : Lane) (s : State) : Host.Outcome State Fault Refusal :=
  act (fun s => s.completeRoot lane) s

/-- The EMIT frame of a control job's record (R66, R177). -/
def emitFrame (l : Link) (kind : RecordKind) (record : List Byte) : OutFrame :=
  { share := .unsolicited, tag := 0, kind := 0xE0, body := [numberByte l, kind.code] ++ record }

/-- The counter a granted root job carries (R56). -/
def CounterClaim.counter : CounterClaim → Option Nat
  | .taken n => some n
  | .unasked => none
  | .raising => none
  | .ready => none

/-- The kind and the protection of the record a control job completes with (R66). -/
def controlSeal (e : LinkEntry) : Work → Option (RecordKind × Seal)
  | .beat slot sequence => some (.beat, trafficSeal e .beat slot sequence [])
  | .proof slot sequence => some (.proof, trafficSeal e .proof slot sequence [])
  | .offer root text claim => claim.counter.map fun n => (.offer, rootSeal e .offer root n text.bytes)
  | .ask root reason claim => claim.counter.map fun n => (.ask, rootSeal e .ask root n [reason.code])
  | .encipher .. => none
  | .decipherTraffic .. => none
  | .decipherRoot .. => none

/-- The requester is told of the emission: the offer timer of a hub in OFFERED and the ask timer of a shop in ASKED
are loaded with offer_ticks (R66, R94, R98). -/
def RenewalContext.emitted (c : RenewalContext) (work : Work) (offerTicks : Nat) : RenewalContext :=
  if (work.isOffer && decide (c.state = .offered)) || (work.isAsk && decide (c.state = .asked)) then
    { c with stepTimer := .running offerTicks }
  else c

/-- The control job in a lane completes (R66): its EMIT takes its reserved slot, its requester is told, and it is
removed. -/
def State.completeControl (s : State) (lane : Lane) : State :=
  match s.laneJob lane with
  | none => s
  | some j =>
    match s.entry j.link with
    | none => s
    | some e =>
      match controlSeal e j.work with
      | none => s
      | some (kind, x) =>
        (((s.sealing x).place (emitFrame j.link kind x.record)).onRenewal j.link fun c =>
          c.emitted j.work e.policy.offerTicks).finishLane lane j.link

/-- CONTROL_JOB_COMPLETION (R66). -/
def execControlJobCompletion (lane : Lane) (s : State) : Host.Outcome State Fault Refusal :=
  act (fun s => s.completeControl lane) s

end Sys2Proof.Machine
end

