-- ==== Sys2Proof/Machine/Restart.lean ====
section
/-! DEFINITION. Restarts, the reset input and the supply (R86, R166, R167, R168). -/

namespace Sys2Proof.Machine

open Sys2Proof

/-- RESTART (R166): a RESTART frame that passes its frame checks restarts the part at its arrival. -/
def execRestart (s : State) : Host.Outcome State Fault Refusal := act (fun s => s.restart .commanded) s

/-- The reset input falls: the transaction in progress is abandoned and an NV write in progress ends (R86, R168). -/
def State.holdReset (s : State) : State := { s.cutWrite with resetLow := true, reading := none }

/-- RESET_ASSERT (R168). Where the supply is off there is only the level of the input. -/
def execResetAssert (s : State) : Host.Outcome State Fault Refusal :=
  .next (if s.powered then s.holdReset else { s with resetLow := true })

/-- The reset input rises after being held low: every block restarts with cause PIN (R167). -/
def State.releaseReset (s : State) : State := { s with resetLow := false }.restart .pin

/-- RESET_RELEASE (R167). An input that was not low does not rise; where the supply is off there is only the level. -/
def execResetRelease (s : State) : Host.Outcome State Fault Refusal :=
  .next (if s.resetLow then (if s.powered then s.releaseReset else { s with resetLow := false }) else s)

/-- POWER_ON (R167): every block restarts with cause POWER, and the part's start-up begins (R168; its end:
DESIGN CHOICE, notes/assumptions/14.md). -/
def execPowerOn (s : State) : Host.Outcome State Fault Refusal :=
  .next ({ s with powered := true, starting := true }.restart .power)

/-- POWER_LOSS (R86): a write in progress ends with the old image or the new one; the queued writes and all live
state are lost, at the loss itself (DESIGN CHOICE: notes/assumptions/20.md). -/
def State.losePower (s : State) : State := { s.cutWrite.wiped s.cause with powered := false, starting := false }

/-- POWER_LOSS (R86). -/
def execPowerLoss (s : State) : Host.Outcome State Fault Refusal := .next (if s.powered then s.losePower else s)

end Sys2Proof.Machine
end

