-- ==== Sys2Proof/Machine/RootStore.lean ====
section
/-! DEFINITION. The root store's requests and its NV writes (chapter 5). -/

namespace Sys2Proof.Machine

open Sys2Proof

/-- The reply to an accepted ROOT-LOAD or ROOT-ERASE waits for the first write of the entry that starts after this
event (R76, R77). -/
def State.oweRootReply (s : State) (r : Request) (e : EntryNo) : State :=
  { s with rootReplies := s.rootReplies ++ [{ tag := r.tag, kind := r.kind, entry := e, covered := false }] }

/-- An accepted ROOT-LOAD: the contents of the request, the live in-counter at the floor, L at S (R76). -/
def RootEntry.load (r : RootEntry) (b : RootLoadBody) (key : Key) : RootEntry :=
  { r with contents := some { shopNumber := b.shopNumber, role := b.role, key := key }
           inCounter := b.floor
           outCounter := r.stored.ceiling }

/-- ROOT-LOAD taken (R75, R76). -/
def takeRootLoad (r : Request) (s : State) : State :=
  match rootLoadBodyOf r.body with
  | none => s.reply r .badForm []
  | some b =>
    if (s.root b.entry).contents.isSome then s.reply r .occupied [numberByte b.entry]
    else
      match unwrapRootKey s.protections s.identity.enrolmentKey b with
      | none => s.reply r .badWrap [numberByte b.entry]
      | some key =>
        ((s.setRoot b.entry ((s.root b.entry).load b key)).requestWrite b.entry).oweRootReply r b.entry

/-- ROOT-LOAD (R75, R76). -/
def execRootLoad (s : State) : Host.Outcome State Fault Refusal := act (takeRequest 0x10 takeRootLoad) s

/-- ROOT-ERASE taken (R77): the live view of an occupied unbound entry becomes empty and keeps its counters. -/
def takeRootErase (r : Request) (s : State) : State :=
  match entryBodyOf r.body with
  | none => s.reply r .badForm []
  | some e =>
    if (s.root e).contents.isNone then s.reply r .noRoot [numberByte e]
    else if (s.root e).bound.isSome then s.reply r .rootInUse [numberByte e]
    else ((s.setRoot e { s.root e with contents := none }).requestWrite e).oweRootReply r e

/-- ROOT-ERASE (R77). -/
def execRootErase (s : State) : Host.Outcome State Fault Refusal := act (takeRequest 0x11 takeRootErase) s

/-- A bound link as a byte, 0xFF for none (R170). -/
def boundByte : Option Link → Byte
  | none => 0xFF
  | some l => numberByte l

/-- Whether a write of an entry is queued or in progress (R78); the entry in progress stands in the queue. -/
def State.writePending (s : State) (e : EntryNo) : Bool := decide (e ∈ s.nvQueue)

/-- The fields of ROOT-READ's reply (R78, R175). -/
def State.rootReadFields (s : State) (e : EntryNo) : List Byte :=
  let r := s.root e
  [numberByte e, bitsByte r.contents.isSome (s.writePending e) false] ++
    (match r.contents with | none => [] | some c => beBytes 4 c.shopNumber.toNat ++ [c.role.code]) ++
    beBytes 4 r.stored.ceiling ++ beBytes 4 r.stored.inCounter ++ beBytes 4 r.ceiling ++
    beBytes 4 r.outCounter ++ beBytes 4 r.inCounter ++ [boundByte r.bound]

/-- ROOT-READ taken (R78). -/
def takeRootRead (r : Request) (s : State) : State :=
  match entryBodyOf r.body with
  | none => s.reply r .badForm []
  | some e => s.reply r .ok (s.rootReadFields e)

/-- ROOT-READ (R78). -/
def execRootRead (s : State) : Host.Outcome State Fault Refusal := act (takeRequest 0x12 takeRootRead) s

/-- NV_WRITE_START (R84). -/
def execNvWriteStart (s : State) : Host.Outcome State Fault Refusal := act State.startWrite s

/-- The write in progress, if there is one, completes (R85). -/
def State.completeWrite (s : State) : State :=
  match s.nvWrite with
  | none => s
  | some w => s.finishWrite w

/-- NV_WRITE_COMPLETION (R85). -/
def execNvWriteCompletion (s : State) : Host.Outcome State Fault Refusal := act State.completeWrite s

end Sys2Proof.Machine
end

