-- ==== Sys2Proof/Machine/Timers.lean ====
section
/-! DEFINITION. The time base, and the commands of the expiries and of the requests of a tick (R26, R93–R107, R129–R133,
R167, R180). What an expiry or a request that can contest a slot does stands in Machine/Ops.lean; slots that one of them
leaves free go to the owed set and what contests them (R145, R146). -/

namespace Sys2Proof.Machine

open Sys2Proof

/-! ## The tick -/

/-- The grace timer of a link at a tick (R26). -/
def KeySet.tick (k : KeySet) : KeySet := { k with grace := k.grace.tick }

/-- Whether a context's OFFER or ASK request of a tick becomes due: in PREPARING or ASKING, or with the retry-owed
mark in OFFERED or ASKED (R180). -/
def RenewalContext.claims (c : RenewalContext) : Bool :=
  match c.state with
  | .preparing => true
  | .asking => true
  | .offered => c.retryOwed
  | .asked => c.retryOwed
  | .idle => false
  | .proved => false
  | .resting => false

/-- The timers of a renewal context at a tick, and the requests of the tick that become due
(R93–R98, R102, R104, R106, R180). -/
def RenewalContext.tick (c : RenewalContext) : RenewalContext :=
  { c with stepTimer := c.stepTimer.tick, renewalTimer := c.renewalTimer.tick, claimDue := c.claims,
           confirmDue := c.confirmOwed }

/-- The beat and silence timers of a link at a tick (R129, R132). -/
def LinkEntry.tick (e : LinkEntry) : LinkEntry :=
  { e with beatTimer := e.beatTimer.tick, silenceTimer := e.silenceTimer.tick }

/-- One tick: the tick count rises, wrapping to 0 after 4,294,967,295 (R167), and every running timer comes down by
one or becomes due. -/
def State.tick (s : State) : State :=
  { s with tickCount := (s.tickCount + 1) % 4294967296
           keys := s.keys.each KeySet.tick
           renewals := s.renewals.each RenewalContext.tick
           links := s.links.each (Option.map LinkEntry.tick) }

/-- TICK (R167). -/
def execTick (s : State) : Host.Outcome State Fault Refusal := act State.tick s

/-! ## Expiries -/

/-- A PREVIOUS slot's grace timer has expired: the slot is erased (R26). -/
def State.expireGrace (s : State) (l : Link) : State :=
  if (s.keySet l).grace = .expiring then s.setKeys l (s.keySet l).erasePrevious else s

/-- GRACE_EXPIRY (R26). -/
def execGraceExpiry (link : Link) (s : State) : Host.Outcome State Fault Refusal :=
  act (fun s => s.expireGrace link) s

/-- OFFER_TIMER_EXPIRY (R95). -/
def execOfferTimerExpiry (link : Link) (s : State) : Host.Outcome State Fault Refusal :=
  act (fun s => (s.expireOffer link).serveFreed) s

/-- ASK_TIMER_EXPIRY (R98). -/
def execAskTimerExpiry (link : Link) (s : State) : Host.Outcome State Fault Refusal :=
  act (fun s => (s.expireAsk link).serveFreed) s

/-- REST_TIMER_EXPIRY (R102). -/
def execRestTimerExpiry (link : Link) (s : State) : Host.Outcome State Fault Refusal :=
  act (fun s => (s.expireRest link).serveFreed) s

/-- RENEWAL_TIMER_EXPIRY (R107). -/
def execRenewalTimerExpiry (link : Link) (s : State) : Host.Outcome State Fault Refusal :=
  act (fun s => (s.expireRenewal link).serveFreed) s

/-- SILENCE_EXPIRY (R130). -/
def execSilenceExpiry (link : Link) (s : State) : Host.Outcome State Fault Refusal :=
  act (fun s => (s.expireSilence link).serveFreed) s

/-- BEAT_EXPIRY (R133). -/
def execBeatExpiry (link : Link) (s : State) : Host.Outcome State Fault Refusal :=
  act (fun s => (s.expireBeat link).serveFreed) s

/-! ## The requests of a tick -/

/-- PREPARING_OFFER_REQUEST (R93). -/
def execPreparingOfferRequest (link : Link) (s : State) : Host.Outcome State Fault Refusal :=
  act (fun s => (s.takePreparing link).serveFreed) s

/-- ASKING_ASK_REQUEST (R97). -/
def execAskingAskRequest (link : Link) (s : State) : Host.Outcome State Fault Refusal :=
  act (fun s => (s.takeAsking link).serveFreed) s

/-- RETRY_OWED_REQUEST (R95, R98). -/
def execRetryOwedRequest (link : Link) (s : State) : Host.Outcome State Fault Refusal :=
  act (fun s => (s.takeRetry link).serveFreed) s

/-- CONFIRM_BEAT_REQUEST (R104). -/
def execConfirmBeatRequest (link : Link) (s : State) : Host.Outcome State Fault Refusal :=
  act (fun s => (s.takeConfirm link).serveFreed) s

end Sys2Proof.Machine
end

