-- ==== Sys2Proof/Machine/Dispatch.lean ====
section
/-! DEFINITION. One arm per command: the direct call of its meaning. -/

namespace Sys2Proof.Machine

open Sys2Proof

-- The effect of a command on everything but the queue of commands.
def exec (i : Instr) (s : State) : Host.Outcome State Fault Refusal :=
  match i with
  | .frameArrival bytes => Sys2Proof.Machine.execFrameArrival bytes s
  | .readLeadByte => Sys2Proof.Machine.execReadLeadByte s
  | .readEnd shifted => Sys2Proof.Machine.execReadEnd shifted s
  | .restart => Sys2Proof.Machine.execRestart s
  | .resetAssert => Sys2Proof.Machine.execResetAssert s
  | .resetRelease => Sys2Proof.Machine.execResetRelease s
  | .powerOn => Sys2Proof.Machine.execPowerOn s
  | .powerLoss => Sys2Proof.Machine.execPowerLoss s
  | .hello => Sys2Proof.Machine.execHello s
  | .status => Sys2Proof.Machine.execStatus s
  | .unknownKind => Sys2Proof.Machine.execUnknownKind s
  | .rootLoad => Sys2Proof.Machine.execRootLoad s
  | .rootErase => Sys2Proof.Machine.execRootErase s
  | .rootRead => Sys2Proof.Machine.execRootRead s
  | .attach => Sys2Proof.Machine.execAttach s
  | .detach => Sys2Proof.Machine.execDetach s
  | .policy => Sys2Proof.Machine.execPolicy s
  | .linkRead => Sys2Proof.Machine.execLinkRead s
  | .keyRead => Sys2Proof.Machine.execKeyRead s
  | .renew => Sys2Proof.Machine.execRenew s
  | .encipher => Sys2Proof.Machine.execEncipher s
  | .decipher => Sys2Proof.Machine.execDecipher s
  | .faultRead => Sys2Proof.Machine.execFaultRead s
  | .faultClear => Sys2Proof.Machine.execFaultClear s
  | .faultEnable => Sys2Proof.Machine.execFaultEnable s
  | .counterSet => Sys2Proof.Machine.execCounterSet s
  | .noticeMode => Sys2Proof.Machine.execNoticeMode s
  | .logRead => Sys2Proof.Machine.execLogRead s
  | .tick => Sys2Proof.Machine.execTick s
  | .graceExpiry link => Sys2Proof.Machine.execGraceExpiry link s
  | .offerTimerExpiry link => Sys2Proof.Machine.execOfferTimerExpiry link s
  | .askTimerExpiry link => Sys2Proof.Machine.execAskTimerExpiry link s
  | .restTimerExpiry link => Sys2Proof.Machine.execRestTimerExpiry link s
  | .renewalTimerExpiry link => Sys2Proof.Machine.execRenewalTimerExpiry link s
  | .silenceExpiry link => Sys2Proof.Machine.execSilenceExpiry link s
  | .beatExpiry link => Sys2Proof.Machine.execBeatExpiry link s
  | .preparingOfferRequest link => Sys2Proof.Machine.execPreparingOfferRequest link s
  | .askingAskRequest link => Sys2Proof.Machine.execAskingAskRequest link s
  | .retryOwedRequest link => Sys2Proof.Machine.execRetryOwedRequest link s
  | .confirmBeatRequest link => Sys2Proof.Machine.execConfirmBeatRequest link s
  | .grant lane => Sys2Proof.Machine.execGrant lane s
  | .encipherCompletion lane => Sys2Proof.Machine.execEncipherCompletion lane s
  | .trafficDecipherCompletion lane => Sys2Proof.Machine.execTrafficDecipherCompletion lane s
  | .rootDecipherCompletion lane => Sys2Proof.Machine.execRootDecipherCompletion lane s
  | .controlJobCompletion lane => Sys2Proof.Machine.execControlJobCompletion lane s
  | .nvWriteStart => Sys2Proof.Machine.execNvWriteStart s
  | .nvWriteCompletion => Sys2Proof.Machine.execNvWriteCompletion s

end Sys2Proof.Machine
end

