-- ==== Sys2Proof/Safety.lean ====
section
/-! DEFINITION. What the manual promises of the part at every event, as predicates on its state: the sizes of its
stores, its key slots, its fault records, its link table and renewal contexts, its CLOSED links and its root counters.
The statements for the provers are made in these terms. -/

namespace Sys2Proof.Machine

open Sys2Proof

/-! ## Requests and their answers -/

/-- The part operates and this request stands at the head of its request queue, the others behind it. -/
def State.Takes (s : State) (r : Request) (rest : List Request) : Prop :=
  s.operating = true ∧ s.requests = r :: rest

/-- The reply to a request: its kind plus 0x80, its tag, and this body (R161). -/
def answerOf (r : Request) (body : List Byte) : OutFrame :=
  { share := .requestOwned, tag := r.tag, kind := r.kind + 0x80, body := body }

/-- A reply frame with its tag, kind and body (R161). -/
def replyOf (tag kind : Byte) (body : List Byte) : OutFrame :=
  { share := .requestOwned, tag := tag, kind := kind, body := body }

/-- The reply that a request to load or erase an entry leaves waiting for a write (R76, R77). -/
def waitingReply (r : Request) (e : EntryNo) : RootReply :=
  { tag := r.tag, kind := r.kind, entry := e, covered := false }

/-- The NOTICE frame of a link with these enabled flags and stamp (R144, R177). -/
def noticeOf (l : Link) (flags : FaultSet) (stamp : Nat) : OutFrame :=
  { share := .unsolicited, tag := 0x00, kind := 0xE1,
    body := byteOf l.val :: beBytes 2 flags.toNat ++ beBytes 2 stamp }

/-- The EMIT frame of a link with a record of this kind (R66, R177). -/
def emitOf (l : Link) (kind : Byte) (record : List Byte) : OutFrame :=
  { share := .unsolicited, tag := 0x00, kind := 0xE0, body := [byteOf l.val, kind] ++ record }

/-- The request has left the queue and its answer joined the output, and nothing else has moved. -/
def State.answered (s : State) (rest : List Request) (f : OutFrame) : State :=
  { s with requests := rest, output := s.output ++ [f] }

/-- The bytes of a write transaction are a whole frame that holds this request: they pass the frame checks (R159,
R160). -/
def FrameHolds (bytes : List Byte) (r : Request) : Prop :=
  r.body.length ≤ 1093 ∧ bytes = frameBytes r.tag r.kind r.body

/-- A link byte names no attached link: it is above 63, or its link is CLOSED. -/
def State.Unattached (s : State) (b : Byte) : Prop := ∀ l : Link, l.val = b.toNat → s.entry l = none

/-! ## Jobs -/

/-- A job as it joins its link's list (R54). -/
def waitingJob (l : Link) (work : Work) : Job := { link := l, work := work, state := .waiting }

/-- This job is the first of its link's list, with the rest of the pool before and after it (R55). -/
def State.First (s : State) (l : Link) (before : List Job) (j : Job) (after : List Job) : Prop :=
  s.pool = before ++ j :: after ∧ j.link = l ∧ ∀ x ∈ before, x.link ≠ l

/-- This job is in the lane, with the rest of the pool before and after it (R57). -/
def State.InLane (s : State) (lane : Lane) (before : List Job) (j : Job) (after : List Job) : Prop :=
  s.pool = before ++ j :: after ∧ j.state = .inLane lane ∧ ∀ x ∈ before, x.state ≠ .inLane lane

/-- No control request of any link is due at this moment: no beat, silence, step or renewal timer has expired, and no
request of the present tick is still to be made. -/
def State.Quiet (s : State) : Prop :=
  ∀ l, (∀ e, s.entry l = some e → e.beatTimer ≠ .expiring ∧ e.silenceTimer ≠ .expiring) ∧
    (s.renewal l).claimDue = false ∧ (s.renewal l).confirmDue = false ∧ (s.renewal l).stepTimer ≠ .expiring ∧
    (s.renewal l).renewalTimer ≠ .expiring

/-- The command of an event that makes a control request. -/
def ControlClaim.command : ControlClaim → Instr
  | .beat l => .beatExpiry l
  | .preparing l => .preparingOfferRequest l
  | .asking l => .askingAskRequest l
  | .retry l => .retryOwedRequest l
  | .confirm l => .confirmBeatRequest l
  | .offerTimer l => .offerTimerExpiry l
  | .askTimer l => .askTimerExpiry l
  | .restTimer l => .restTimerExpiry l
  | .renewalTimer l => .renewalTimerExpiry l
  | .silence l => .silenceExpiry l

/-- Claims on free unsolicited slots taken in some order from `s` to `t`, while links are owed and slots are free: at each,
the NOTICE of the lowest owed link or a due control request, but for those of link `own` (R145, R146). Open choices may be
made on the way. -/
inductive State.Serves (own : Option Link) : State → State → Prop
  | done (s) : State.Serves own s s
  | chosen {s t} : State.Serves own { s with choices := s.choices + 1 } t → State.Serves own s t
  | notice {s t} (l rest) : s.owed = l :: rest → s.unsolicitedInUse < 16 →
      State.Serves own ({ s with owed := rest }.placeNotice l) t → State.Serves own s t
  | request {s t} (c) : s.owed ≠ [] → s.unsolicitedInUse < 16 → c ∈ s.dueClaims → some c.link ≠ own →
      State.Serves own (s.takeControlClaim c) t → State.Serves own s t

/-- The header of a record fails one of the nine checks that give FORM (R15), for a link in this role with this shop
number. -/
def Malformed (role : Role) (shop : BitVec 32) (r : List Byte) : Prop :=
  let kind := (recordKindByte r).toNat
  r.length < 28 ∨ (kind = 0 ∨ 5 < kind) ∨ 1024 < recordLength r ∨ r.length ≠ 28 + recordLength r ∨
  recordSequence r = 0 ∨ (kind ≤ 3 ∧ recordEpoch r = 0 ∨ 4 ≤ kind ∧ recordEpoch r ≠ 0) ∨
  (role = .hub ∧ kind = 4 ∨ role = .shop ∧ (kind = 3 ∨ kind = 5)) ∨
  ((kind = 2 ∨ kind = 3) ∧ recordLength r ≠ 0 ∨ kind = 4 ∧ recordLength r ≠ 38 ∨ kind = 5 ∧ recordLength r ≠ 1) ∨
  recordShop r ≠ shop

/-- The nonce of a record: a salt, the direction word, and the sequence or counter; this is that of records sent by a
role (R6, R8, R9). -/
def sentNonce (role : Role) (salt : Salt) (sequence : Nat) : Nonce :=
  salt ++ (if role = .shop then 0x80000000#32 else 0#32) ++ BitVec.ofNat 32 sequence

/-- The nonce of the records a role receives: those its peer sent (R6). -/
def receivedNonce (role : Role) (salt : Salt) (sequence : Nat) : Nonce :=
  salt ++ (if role = .hub then 0x80000000#32 else 0#32) ++ BitVec.ofNat 32 sequence

/-- A protection was made, outside the part or by it, and its tag is that of no other protection of the part (R5; the
model's ideal cipher, notes/assumptions/7.md). -/
def State.Genuine (s : State) (p : Protection) : Prop :=
  (Config.origin (protectionTag p) = some p ∨ p ∈ s.protections) ∧
  ∀ x ∈ s.protections, protectionTag x = protectionTag p → x = p

/-- A sealed text verifies under a key and a nonce: its tag is the one recomputed from its header and body, and it was
protected so (R5). -/
def State.Opens (s : State) (key : Key) (nonce : Nonce) (header body tag : List Byte) : Prop :=
  tagBytes key nonce header body = tag ∧ s.Genuine { key := key, nonce := nonce, header := header, body := body }

/-- A record verifies under a key and a nonce: its first 12 bytes are its header and its last 16 its tag (R1, R5). -/
def State.Verifies (s : State) (key : Key) (nonce : Nonce) (r : List Byte) : Prop :=
  s.Opens key nonce (r.take 12) (field r 12 (r.length - 28)) (r.drop (r.length - 16))

/-- The role of a link's outbound slot, for an entry and a renewal state (R23). -/
def outboundRoleOf (e : LinkEntry) (c : RenewalContext) : SlotRole :=
  if e.role = .shop ∧ c.state = .proved then .next else .current

/-! ## Restarts -/

/-- Root entries as a cut of the NV write in progress may leave them: each keeps its stored image, or its write was in
progress and it has the whole image that write carried (R86). -/
def State.ImagesAfterCut (s : State) (roots : Table RootEntry) : Prop :=
  ∀ e, roots.look e = s.root e ∨
    ∃ w, s.nvWrite = some w ∧ w.entry = e ∧ roots.look e = { s.root e with stored := w.image }

/-- The part after a restart that left these stored images (R34, R71, R87, R89, R114, R138, R167). -/
def State.afterRestart (s : State) (cause : RestartCause) (roots : Table RootEntry) (choices : Nat) : State :=
  { pending := s.pending, powered := s.powered, resetLow := s.resetLow, starting := s.starting,
    requests := [], output := [], reading := none, frameErrors := 0, overruns := 0, fresh := true, cause := cause,
    pool := [], pointer := 63,
    keys := Table.filled { next := none, current := none, previous := none, grace := .stopped },
    roots := roots.each fun r =>
      { stored := r.stored, contents := r.stored.contents, ceiling := r.stored.ceiling,
        outCounter := r.stored.ceiling, inCounter := r.stored.inCounter, bound := none },
    nvQueue := [], nvWrite := none, rootReplies := [], identity := s.identity,
    renewals := Table.filled
      { state := .idle, triesUsed := 0, stepTimer := .stopped, retryOwed := false, dueMark := false,
        renewalTimer := .stopped, roundReason := none, lastReason := none, lastAskReason := none,
        confirmOwed := false, claimDue := false, confirmDue := false },
    links := Table.filled none,
    faults := Table.filled
      { flags := 0#13, enabled := 0xF7F#13, stamp := 0, capture := none,
        counterA := { source := .tag, value := 0 }, counterB := { source := .epoch, value := 0 }, noticeSent := false },
    noticeMode := .all, owed := [], log := [], lost := 0, tickCount := 0, draws := s.draws, choices := choices,
    protections := s.protections }

/-! ## Key slots and policies -/

/-- The accepted set is rising, lies between H - 63 and H, and holds H once H is at least 1 (R46). -/
def Window.Sound (w : Window) : Prop :=
  w.seen.Pairwise (· < ·) ∧ (∀ x ∈ w.seen, x ≤ w.high ∧ w.high ≤ x + 63) ∧ (0 < w.high → w.high ∈ w.seen)

/-- The fields of a key slot lie in their ranges (R17, R37), its protected blocks never pass its wear limit (R38), and
its out sequence is at most half of them (R39). -/
def KeySlot.Sound (k : KeySlot) : Prop :=
  1 ≤ k.epoch ∧ k.epoch ≤ 255 ∧ 4096 ≤ k.wearLimit ∧ k.wearLimit ≤ maxWord ∧
  512 ≤ k.softThreshold ∧ k.softThreshold + 512 ≤ k.wearLimit ∧
  k.protectedBlocks ≤ k.wearLimit ∧ 2 * k.outSequence ≤ k.protectedBlocks ∧ k.openedBlocks ≤ maxWord ∧ k.window.Sound

/-- The policy fields lie in their ranges (R115). -/
def Policy.Sound (p : Policy) : Prop :=
  (1 ≤ p.lockIn ∧ p.lockIn ≤ 15) ∧ (1 ≤ p.lockOut ∧ p.lockOut ≤ 15) ∧
  (10 ≤ p.silenceTicks ∧ p.silenceTicks ≤ 65535) ∧
  (p.beatTicks = 0 ∨ 5 ≤ p.beatTicks ∧ p.beatTicks ≤ 65535) ∧
  (600 ≤ p.renewTicks ∧ p.renewTicks ≤ 16777215) ∧ (4096 ≤ p.wearLimit ∧ p.wearLimit ≤ maxWord) ∧
  (1 ≤ p.softEighths ∧ p.softEighths ≤ 7) ∧ (1 ≤ p.graceTicks ∧ p.graceTicks ≤ 65535) ∧
  (10 ≤ p.offerTicks ∧ p.offerTicks ≤ 65535) ∧ (1 ≤ p.offerTries ∧ p.offerTries ≤ 7) ∧
  (50 ≤ p.restTicks ∧ p.restTicks ≤ 65535)

/-- An OFFER held for its release carries an epoch of 1 to 255 (R13). -/
def Job.HoldsEpoch (j : Job) : Prop := ∀ t, j.state = .held (.offer t) → 1 ≤ t.epoch ∧ t.epoch ≤ 255

/-- Every policy, every key slot and every held OFFER of the part is sound, and no round has used more than 7 tries, nor
7 while a retry is owed (R88, R95, R98). -/
def State.SlotsSound (s : State) : Prop :=
  (∀ l e, s.entry l = some e → e.policy.Sound) ∧
  (∀ l role k, (s.keySet l).slot role = some k → k.Sound) ∧
  (∀ j ∈ s.pool, j.HoldsEpoch) ∧
  ∀ l, (s.renewal l).triesUsed ≤ 7 ∧ ((s.renewal l).retryOwed = true → (s.renewal l).triesUsed ≤ 6)

/-! ## The sizes of the stores -/

/-- No store of the part holds more than its size and no count passes its top (R52, R155, R160, R161, R162, R167). -/
def State.WithinSizes (s : State) : Prop :=
  s.requests.length ≤ 16 ∧ s.pool.length ≤ 32 ∧ s.hostJobs ≤ 28 ∧ s.requestOwnedInUse ≤ 32 ∧
  s.unsolicitedInUse ≤ 16 ∧ s.log.length ≤ 32 ∧ s.lost ≤ 65535 ∧ s.frameErrors ≤ 65535 ∧ s.overruns ≤ 65535 ∧
  s.tickCount < 4294967296

/-! ## Bindings and CLOSED links -/

/-- A root entry is bound to a link exactly while the link is attached to it (R74). A CLOSED link holds no key slot, no
job, no bound root and a renewal context in IDLE (R114); its fault record holds its starting values (R138) and no
notice is owed for it. -/
def State.BindingsSound (s : State) : Prop :=
  (∀ e l, (s.root e).bound = some l ↔ ∃ x, s.entry l = some x ∧ x.rootEntry = e) ∧
  ∀ l, s.entry l = none →
    s.keySet l = KeySet.empty ∧ s.renewal l = RenewalContext.initial ∧ s.faultRecord l = FaultRecord.initial ∧
    l ∉ s.owed ∧ ∀ j ∈ s.pool, j.link ≠ l

/-! ## Fault records -/

/-- The capture is present exactly while the flags are not empty, and stamp and counters are in range (R137). -/
def FaultRecord.Sound (r : FaultRecord) : Prop :=
  (r.capture.isSome ↔ r.flags ≠ 0#13) ∧ r.stamp ≤ 65535 ∧ r.counterA.value ≤ 65535 ∧ r.counterB.value ≤ 65535

/-- Every record is sound; a link is pending exactly when its notice-sent mark is set or it is owed, and never both
(R143, R145, R147); the owed set is rising, and no unsolicited slot is free while it is not empty (R145). -/
def State.NoticesSound (s : State) : Prop :=
  (∀ l, (s.faultRecord l).Sound) ∧
  (∀ l, s.isPending l = true ↔ (s.faultRecord l).noticeSent = true ∨ l ∈ s.owed) ∧
  (∀ l ∈ s.owed, (s.faultRecord l).noticeSent = false) ∧
  s.owed.Pairwise (· < ·) ∧ (s.owed ≠ [] → s.unsolicitedFree = false)

/-! ## The link table, the key sets and the renewal contexts -/

/-- An attached link is in HUNT, UP or FAILING exactly while it holds a CURRENT (R114); its silence and renewal timers
run exactly then (R106, R129), and its grace timer exactly while it holds a PREVIOUS (R26); the good count is nonzero
only in HUNT and the bad count only in FAILING (R113). -/
def State.SupervisionSound (s : State) : Prop :=
  ∀ l e, s.entry l = some e →
    ((s.keySet l).current.isSome ↔ e.state ≠ .keyless) ∧
    (e.silenceTimer.isOn = true ↔ e.state ≠ .keyless) ∧
    ((s.renewal l).renewalTimer.isOn = true ↔ e.state ≠ .keyless) ∧
    ((s.keySet l).grace.isOn = true ↔ (s.keySet l).previous.isSome) ∧
    (e.goodCount ≠ 0 → e.state = .hunt) ∧ (e.badCount ≠ 0 → e.state = .failing)

/-- The renewal states of a role (R88). -/
def Role.allows : Role → RenewalState → Prop
  | .hub, c => c = .idle ∨ c = .preparing ∨ c = .offered ∨ c = .resting
  | .shop, c => c = .idle ∨ c = .asking ∨ c = .asked ∨ c = .proved ∨ c = .resting

/-- A held record is of the kind its link's role receives: an OFFER at a shop, an ASK at a hub (R15). -/
def State.HeldFits (s : State) (j : Job) : Prop :=
  ∀ content, j.state = .held content → ∃ e, s.entry j.link = some e ∧
    match content with
    | .offer _ => e.role = .shop
    | .ask _ => e.role = .hub

/-- An attached link's context is in a state of its role; the link holds a NEXT exactly in OFFERED or PROVED; a step
timer runs only in OFFERED, ASKED or RESTING; the retry-owed mark is set only in OFFERED or ASKED; the confirm-owed
mark and the last ASK reason are set only at a hub (R88); the beat timer runs exactly while the link has an outbound
slot and beat_ticks is not 0 (R132). -/
def State.RenewalSound (s : State) : Prop :=
  (∀ l e, s.entry l = some e →
    e.role.allows (s.renewal l).state ∧
    ((s.keySet l).next.isSome ↔ (s.renewal l).state = .offered ∨ (s.renewal l).state = .proved) ∧
    ((s.renewal l).stepTimer.isOn = true →
      (s.renewal l).state = .offered ∨ (s.renewal l).state = .asked ∨ (s.renewal l).state = .resting) ∧
    ((s.renewal l).retryOwed = true → (s.renewal l).state = .offered ∨ (s.renewal l).state = .asked) ∧
    ((s.renewal l).confirmOwed = true → e.role = .hub) ∧
    ((s.renewal l).lastAskReason ≠ none → e.role = .hub) ∧
    (e.beatTimer.isOn = true ↔ (s.outboundSlot l).isSome ∧ e.policy.beatTicks ≠ 0)) ∧
  ∀ j ∈ s.pool, s.HeldFits j

/-- The epochs of a link's occupied slots are distinct, and at a hub consecutive (R19, R20). -/
def State.EpochsSound (s : State) : Prop :=
  ∀ l, (∀ a b x y, (s.keySet l).slot a = some x → (s.keySet l).slot b = some y → x.epoch = y.epoch → a = b) ∧
    ∀ e, s.entry l = some e → e.role = .hub →
      (∀ n c, (s.keySet l).next = some n → (s.keySet l).current = some c → n.epoch = nextEpoch c.epoch) ∧
      (∀ c p, (s.keySet l).current = some c → (s.keySet l).previous = some p → c.epoch = nextEpoch p.epoch) ∧
      ((s.keySet l).current = none → (s.keySet l).previous = none)

/-! ## Root counters -/

/-- The jobs of one link, in acceptance order (R55). -/
def State.jobList (s : State) (l : Link) : List Job := s.pool.filter fun j => decide (j.link = l)

/-- L is at most S and S at most the live ceiling, at every entry (R72). -/
def RootEntry.Sound (r : RootEntry) : Prop :=
  r.outCounter ≤ r.stored.ceiling ∧ r.stored.ceiling ≤ r.ceiling ∧ r.ceiling ≤ maxWord

/-- The root counters are ordered (R72), the write in progress carries a ceiling between S and the live ceiling of the
entry at the queue's head (R84), the queue holds an entry at most once (R84), a bound entry is occupied (R74), outbound
root jobs ask of their link's entry (R30), and only the first job of a list has asked, a ready one while L + 1 is at
most S (R56, R79). -/
def State.RootsSound (s : State) : Prop :=
  (∀ e, (s.root e).Sound) ∧
  (∀ w, s.nvWrite = some w → (s.root w.entry).stored.ceiling ≤ w.image.ceiling ∧
    w.image.ceiling ≤ (s.root w.entry).ceiling ∧ s.nvQueue.head? = some w.entry) ∧
  s.nvQueue.Nodup ∧
  (∀ e, (s.root e).bound.isSome → (s.root e).contents.isSome) ∧
  (∀ j ∈ s.pool, ∀ e c, j.work.claim = some (e, c) → (s.root e).bound = some j.link) ∧
  (∀ l, ∀ j ∈ (s.jobList l).tail, ∀ e c, j.work.claim = some (e, c) → c = .unasked) ∧
  ∀ l j e, s.firstJob l = some j → j.work.claim = some (e, .ready) → (s.root e).outCounter + 1 ≤ (s.root e).stored.ceiling

end Sys2Proof.Machine
end

