-- ==== Sys2Proof/Certificates/Slice0/Obligations.lean ====
section
/-! DEFINITION. The statements for the provers. A command's statement gives the whole next state, so that everything it
does not name is unchanged; a shared event of the manual (a trigger, an occurrence, a promotion) has a statement of its
own, and the statements of the commands that raise it name it. -/

open Sys2Proof Sys2Proof.Machine

/-! ## The machine -/

/-- A step runs the command at the front of the queue on the rest of the state; on an empty queue the part idles and a
start-up in progress ends (the model's choices, notes/assumptions/3.md and 14.md). -/
def Obligations.StepRunsFrontCommand : Prop :=
  (∀ c rest (s : State), s.pending = c :: rest → step s = exec c { s with pending := rest }) ∧
  ∀ s : State, s.pending = [] → step s = .next { s with starting := false }

/-- What every block holds after the restart that a power-on is (R34, R71, R87, R89, R114, R138, R167); the first
status byte shows READY and FRESH (R158). That the part operates there, and so that this byte is not 0x00, rests on a
start-up that has ended at `State.reset`, the model's choice (notes/assumptions/22.md). -/
def Obligations.ResetState : Prop :=
  let s := State.reset
  s.operating = true ∧ s.requests = [] ∧ s.output = [] ∧ s.frameErrors = 0 ∧ s.overruns = 0 ∧ s.fresh = true ∧
  s.cause = .power ∧ s.statusByte = 5#8 ∧ s.attnLow = false ∧ s.pool = [] ∧ s.pointer = 63 ∧ s.nvQueue = [] ∧
  s.nvWrite = none ∧ s.noticeMode = .all ∧ s.owed = [] ∧ s.log = [] ∧ s.lost = 0 ∧ s.tickCount = 0 ∧
  (∀ l, s.entry l = none ∧
    s.keySet l = { next := none, current := none, previous := none, grace := .stopped } ∧
    s.renewal l = { state := .idle, triesUsed := 0, stepTimer := .stopped, retryOwed := false, dueMark := false,
                    renewalTimer := .stopped, roundReason := none, lastReason := none, lastAskReason := none,
                    confirmOwed := false, claimDue := false, confirmDue := false } ∧
    s.faultRecord l = { flags := 0#13, enabled := 0xF7F#13, stamp := 0, capture := none,
                        counterA := { source := .tag, value := 0 }, counterB := { source := .epoch, value := 0 },
                        noticeSent := false }) ∧
  ∀ e, (s.root e).contents = (s.root e).stored.contents ∧ (s.root e).ceiling = (s.root e).stored.ceiling ∧
    (s.root e).outCounter = (s.root e).stored.ceiling ∧ (s.root e).inCounter = (s.root e).stored.inCounter ∧
    (s.root e).bound = none

/-- The eight invariants of the part hold after reset: the sizes of its stores, its key slots, its bindings, its notices,
its supervision states, its renewal contexts, its epochs and its root counters. -/
def Obligations.ResetIsSound : Prop :=
  State.reset.WithinSizes ∧ State.reset.SlotsSound ∧ State.reset.BindingsSound ∧ State.reset.NoticesSound ∧
  State.reset.SupervisionSound ∧ State.reset.RenewalSound ∧ State.reset.EpochsSound ∧ State.reset.RootsSound

/-! ## Restarts (chapter 9.6) -/

/-- A part held in restart, or that is starting, takes no frame, and its status byte is 0x00; a falling reset input
abandons the transaction and ends a write in progress with the old image or the new one (R86, R168). The model's choices
(notes/assumptions/20.md): a part without its supply does the same, no internal event of a held or unpowered part changes
anything, without supply the reset input only moves its level, and a release of a high input and the loss of a supply that
is off do nothing. That each command of a starting part either falls within the start-up and does nothing, or finds it
ended, is the model's choice as well (notes/assumptions/14.md). -/
def Obligations.HeldPart : Prop :=
  (∀ c (s : State), (s.powered = false ∨ s.resetLow = true) → c ≠ .resetAssert → c ≠ .resetRelease → c ≠ .powerOn →
    c ≠ .powerLoss → exec c s = .next s) ∧
  (∀ c (s : State), s.powered = true → s.resetLow = false → s.starting = true → c ≠ .resetAssert → c ≠ .resetRelease →
    c ≠ .powerOn → c ≠ .powerLoss →
    exec c s = .next { s with choices := s.choices + 1 } ∨
    exec c s = exec c { s with starting := false, choices := s.choices + 1 }) ∧
  (∀ s : State, (s.powered = false ∨ s.resetLow = true ∨ s.starting = true) → s.statusByte = 0#8) ∧
  (∀ s : State, s.powered = true → ∃ roots choices, s.ImagesAfterCut roots ∧
    exec .resetAssert s = .next { s with resetLow := true, reading := none, nvWrite := none, roots := roots,
                                         choices := choices }) ∧
  (∀ s : State, s.powered = false → exec .resetAssert s = .next { s with resetLow := true }) ∧
  (∀ s : State, s.powered = false → s.resetLow = true →
    exec .resetRelease s = .next { s with resetLow := false }) ∧
  (∀ s : State, s.resetLow = false → exec .resetRelease s = .next s) ∧
  ∀ s : State, s.powered = false → exec .powerLoss s = .next s

/-- Each of the three restarts leaves every block at its restart value, the stored images as a cut write left them, and
the cause recorded; a power-on begins the start-up (R86, R87, R166, R167, R168). The model's choices
(notes/assumptions/20.md): the loss of the supply wipes everything but the stored images and the last cause at the loss
itself, and a power-on does the same of a part that is powered already or whose reset input is low. How long the start-up
lasts is left open (notes/assumptions/14.md). -/
def Obligations.RestartLeaves : Prop :=
  (∀ s : State, s.operating = true → ∃ roots choices, s.ImagesAfterCut roots ∧
    exec .restart s = .next (s.afterRestart .commanded roots choices)) ∧
  (∀ s : State, s.resetLow = true → s.powered = true → ∃ roots choices, s.ImagesAfterCut roots ∧
    exec .resetRelease s = .next ({ s with resetLow := false }.afterRestart .pin roots choices)) ∧
  (∀ s : State, ∃ roots choices, s.ImagesAfterCut roots ∧
    exec .powerOn s = .next ({ s with powered := true, starting := true }.afterRestart .power roots choices)) ∧
  ∀ s : State, s.powered = true → ∃ roots choices, s.ImagesAfterCut roots ∧
    exec .powerLoss s = .next ({ s with powered := false, starting := false }.afterRestart s.cause roots choices)

/-! ## The message port (chapter 9) -/

/-- The judgement of the bytes of a write transaction, lead byte 0xA6: frame error, RESTART, overrun or admission; a
write that ends after its lead byte, and a transaction with any other lead byte or none, delivers nothing and changes
nothing (R157, R160). That a write which began while the reset input was low, or within the start-up, is judged like
any other is the model's choice (notes/assumptions/26.md). -/
def Obligations.FrameArrivalJudged : Prop :=
  (∀ (s : State) lead bytes, s.operating = true → (lead ≠ 0xA6#8 ∨ bytes = []) →
    exec (.frameArrival (lead :: bytes)) s = .next s) ∧
  (∀ s : State, s.operating = true → exec (.frameArrival []) s = .next s) ∧
  ∀ (s : State) bytes, s.operating = true → bytes ≠ [] →
    ((∀ r, ¬ FrameHolds bytes r) →
      exec (.frameArrival (0xA6 :: bytes)) s = .next { s with frameErrors := min (s.frameErrors + 1) 65535 }) ∧
    ∀ r, FrameHolds bytes r →
      (r.kind = 0x03 → ∃ roots choices, s.ImagesAfterCut roots ∧
        exec (.frameArrival (0xA6 :: bytes)) s = .next (s.afterRestart .commanded roots choices)) ∧
      (r.kind ≠ 0x03 → (16 ≤ s.requests.length ∨ 32 ≤ s.requestOwnedInUse) →
        exec (.frameArrival (0xA6 :: bytes)) s = .next { s with overruns := min (s.overruns + 1) 65535 }) ∧
      (r.kind ≠ 0x03 → s.requests.length < 16 → s.requestOwnedInUse < 32 →
        exec (.frameArrival (0xA6 :: bytes)) s = .next { s with requests := s.requests ++ [r] })

/-- A frame's bytes are its length plus 6, its parts read back as they were framed, and bytes that pass the frame checks
are the frame of what is read from them (R159, R160, R172). -/
def Obligations.FrameRoundTrip : Prop :=
  (∀ (tag kind : Byte) (body : List Byte), (frameBytes tag kind body).length = (1 + body.length) + 6) ∧
  (∀ r : Request, r.body.length ≤ 1093 → parseFrame (frameBytes r.tag r.kind r.body) = some r) ∧
  ∀ bytes r, parseFrame bytes = some r → FrameHolds bytes r

/-- A read transaction chooses the head frame, or the EMPTY frame, at its lead byte 0x59, and no other lead byte
chooses one; at its end the head frame leaves exactly when all its bytes have been shifted out, and the slot of an EMIT
or NOTICE so freed takes the NOTICE of the lowest owed link, with the flags and stamp of that moment, where no control
request is due; where one is, it may take the slot instead (R144, R145, R146, R157, R163, R177). That the chosen bytes
are held until the end of the transaction is the model's reading (notes/assumptions/23.md), and that a READ_END with no
read in progress changes nothing its choice (notes/assumptions/1.md). That a read whose select fell while the reset
input was low, or within the start-up, chooses its frame like any other is the model's choice
(notes/assumptions/26.md). -/
def Obligations.ReadTransactions : Prop :=
  (∀ s : State, s.operating = true → s.output = [] →
    exec .readLeadByte s = .next { s with
      reading := some { bytes := [0xC3, 0x00, 0x01, 0x00, 0xFF] ++ beBytes 2 (crc16 [0x00, 0x01, 0x00, 0xFF]).toNat
                        isHead := false } }) ∧
  (∀ (s : State) f rest, s.operating = true → s.output = f :: rest →
    exec .readLeadByte s = .next { s with
      reading := some { bytes := frameBytes f.tag f.kind f.body, isHead := true } }) ∧
  (∀ (s : State) lead, lead ≠ 0x59#8 → s.beginTransaction lead = { s with reading := none }) ∧
  (∀ (s : State) n, s.operating = true → s.reading = none → exec (.readEnd n) s = .next s) ∧
  (∀ (s : State) n r, s.operating = true → s.reading = some r → (r.isHead = false ∨ n < r.bytes.length) →
    exec (.readEnd n) s = .next { s with reading := none }) ∧
  (∀ (s : State) n r f rest, s.operating = true → s.reading = some r → r.isHead = true → r.bytes.length ≤ n →
    s.output = f :: rest → (f.share = .requestOwned ∨ s.owed = []) →
    exec (.readEnd n) s = .next { s with reading := none, output := rest }) ∧
  (∀ (s : State) n r f rest, s.operating = true → s.reading = some r → r.isHead = true → r.bytes.length ≤ n →
    s.output = f :: rest → f.share = .unsolicited →
    exec (.readEnd n) s = .next { s with reading := none, output := rest }.serveFreed) ∧
  ∀ (s : State) n r f rest l owed, s.operating = true → s.reading = some r → r.isHead = true → r.bytes.length ≤ n →
    s.output = f :: rest → f.share = .unsolicited → s.owed = l :: owed → s.Quiet → s.unsolicitedInUse = 16 →
    exec (.readEnd n) s = .next { s with
      reading := none
      owed := owed
      output := rest ++ [noticeOf l ((s.faultRecord l).flags &&& (s.faultRecord l).enabled) (s.faultRecord l).stamp]
      faults := s.faults.put l { s.faultRecord l with noticeSent := true } }

/-- What the part shifts out and drives while it operates: the status byte shows READY exactly with fewer than 16
queued requests and fewer than 32 request-owned slots reserved or filled, OUT exactly while the output is not empty,
which is when ATTN is low, FRESH as the mark stands, and no other bit; each byte behind it is that of the frame chosen
at the lead byte, and 0x00 behind its end and in every transaction that is no read (R157, R158, R163, R172). That the
bytes are held from the lead byte on, and that these outputs are functions of the state, are the model's readings
(notes/assumptions/23.md and 15.md). That a read whose select fell while the reset input was low, or within the
start-up, chooses its frame like any other is the model's choice (notes/assumptions/26.md). -/
def Obligations.PortOutputs : Prop :=
  (∀ s : State, s.operating = true →
    (s.statusByte.getLsbD 0 = true ↔ s.requests.length < 16 ∧
      s.output.countP OutFrame.isReply + s.requests.length + s.hostJobs + s.rootReplies.length < 32) ∧
    (s.statusByte.getLsbD 1 = true ↔ s.output ≠ []) ∧ (s.attnLow = true ↔ s.output ≠ []) ∧
    s.statusByte.getLsbD 2 = s.fresh ∧ s.statusByte.toNat < 8) ∧
  (∀ (s : State) i, s.reading = none → s.dataOut i = 0) ∧
  (∀ (s : State) x i, s.reading = some x →
    (∀ b, x.bytes[i]? = some b → s.dataOut i = b) ∧ (x.bytes.length ≤ i → s.dataOut i = 0)) ∧
  (∀ (s : State) lead i, lead ≠ 0x59#8 → (s.beginTransaction lead).dataOut i = 0) ∧
  ∀ s : State, s.operating = true → ∃ t, exec .readLeadByte s = .next t ∧ t = s.beginTransaction 0x59 ∧ ∀ i,
    (s.output = [] → t.dataOut i = (frameBytes 0x00 0xFF []).getD i 0) ∧
    ∀ f rest, s.output = f :: rest → t.dataOut i = (frameBytes f.tag f.kind f.body).getD i 0

/-- HELLO: an empty body clears FRESH and is answered with the part code 0x4A40, the revision, the serial number, the
cause of the last restart, the tick count and the number of occupied root entries; any other body is refused with
BAD-FORM and leaves FRESH as it was (R164). -/
def Obligations.HelloAnswered : Prop :=
  (∀ (s : State) r rest, s.Takes r rest → r.kind = 0x01 → r.body = [] →
    exec .hello s = .next ({ s with fresh := false }.answered rest (answerOf r
      ([0x00, 0x4A, 0x40, s.identity.revision] ++ beBytes 4 s.identity.serialNumber.toNat ++
        [match s.cause with | .power => 0x00#8 | .pin => 0x01#8 | .commanded => 0x02#8] ++ beBytes 4 s.tickCount ++
        [byteOf ((List.finRange 64).countP fun e => (s.root e).contents.isSome)])))) ∧
  ∀ (s : State) r rest, s.Takes r rest → r.kind = 0x01 → r.body ≠ [] →
    exec .hello s = .next (s.answered rest (answerOf r [0x10]))

/-- STATUS: an empty body is answered with the tick count, the attached links, the host and control jobs, the
request-owned slots (that of the STATUS request among them, so at least 1), the unsolicited slots, the NV write queue
depth, the frame-error count and the overrun count, and nothing changes; any other body is refused with BAD-FORM
(R165). -/
def Obligations.StatusAnswered : Prop :=
  (∀ (s : State) r rest, s.Takes r rest → r.kind = 0x02 → r.body = [] →
    1 ≤ s.requestOwnedInUse ∧
    exec .status s = .next (s.answered rest (answerOf r
      (0x00 :: beBytes 4 s.tickCount ++
        [byteOf ((List.finRange 64).countP fun l => (s.entry l).isSome), byteOf s.hostJobs, byteOf s.controlJobs,
         byteOf s.requestOwnedInUse, byteOf s.unsolicitedInUse, byteOf s.nvQueue.length] ++
        beBytes 2 s.frameErrors ++ beBytes 2 s.overruns)))) ∧
  ∀ (s : State) r rest, s.Takes r rest → r.kind = 0x02 → r.body ≠ [] →
    exec .status s = .next (s.answered rest (answerOf r [0x10]))

/-! ## Refusals of bodies and links -/

/-- A body that is malformed by its length, its entry, its enumerated fields, its sets or its policy list (a length that
is no multiple of 5, a field number 0 or above 13 or given twice, an enumerated field above 1) is refused with BAD-FORM
alone, a request of none of the twenty kinds is answered with kind 0x80, UNKNOWN-KIND and the kind that was written, and
nothing else changes (R161, R171, R173, R174). That UNKNOWN_KIND and each taking command act on the request at the head of
the queue is R161; that they change nothing where another stands there is the model's choice and is not stated here
(notes/assumptions/1.md). -/
def Obligations.BodiesAndKindsRefused : Prop :=
  (∀ (s : State) r rest, s.Takes r rest →
    r.kind ∉ ([0x01, 0x02, 0x03, 0x10, 0x11, 0x12, 0x20, 0x21, 0x22, 0x23, 0x24, 0x25, 0x30, 0x31, 0x40, 0x41, 0x42,
      0x43, 0x44, 0x45] : List Byte) →
    exec .unknownKind s = .next (s.answered rest
      (replyOf r.tag 0x80 [0x1D, r.kind]))) ∧
  ∀ (s : State) r rest, s.Takes r rest →
    let refused := Host.Outcome.next (φ := Fault) (ρ := Refusal) (s.answered rest (answerOf r [0x10]))
    let badList (list : List Byte) : Prop := policyListOf list = none ∨
      ∃ items : List (Nat × Nat), (∀ x ∈ items, x.1 < 256 ∧ x.2 < 4294967296) ∧
        list = items.flatMap (fun x => byteOf x.1 :: beBytes 4 x.2) ∧
        ((∃ x ∈ items, x.1 = 0 ∨ 13 < x.1 ∨ 12 ≤ x.1 ∧ 1 < x.2) ∨ ¬ (items.map Prod.fst).Nodup)
    (r.kind = 0x10 → (r.body.length ≠ 70 ∨ 63 < (byteAt r.body 0).toNat ∨ 1 < (byteAt r.body 5).toNat) →
      exec .rootLoad s = refused) ∧
    (r.kind = 0x11 → (r.body.length ≠ 1 ∨ 63 < (byteAt r.body 0).toNat) → exec .rootErase s = refused) ∧
    (r.kind = 0x12 → (r.body.length ≠ 1 ∨ 63 < (byteAt r.body 0).toNat) → exec .rootRead s = refused) ∧
    (r.kind = 0x20 → (r.body.length < 2 ∨ 63 < (byteAt r.body 1).toNat ∨ (r.body.length - 2) % 5 ≠ 0) →
      exec .attach s = refused) ∧
    (∀ b n list, r.kind = 0x20 → r.body = b :: n :: list → badList list → exec .attach s = refused) ∧
    (r.kind = 0x21 → r.body.length ≠ 1 → exec .detach s = refused) ∧
    (r.kind = 0x22 → (r.body.length = 0 ∨ (r.body.length - 1) % 5 ≠ 0) → exec .policy s = refused) ∧
    (∀ b list, r.kind = 0x22 → r.body = b :: list → badList list → exec .policy s = refused) ∧
    (r.kind = 0x23 → r.body.length ≠ 1 → exec .linkRead s = refused) ∧
    (r.kind = 0x24 → r.body.length ≠ 1 → exec .keyRead s = refused) ∧
    (r.kind = 0x25 → r.body.length ≠ 1 → exec .renew s = refused) ∧
    (r.kind = 0x30 → (r.body.length = 0 ∨ 1025 < r.body.length) → exec .encipher s = refused) ∧
    (r.kind = 0x31 → (r.body.length < 3 ∨ beNat (field r.body 1 2) ≠ r.body.length - 3) →
      exec .decipher s = refused) ∧
    (r.kind = 0x40 → r.body.length ≠ 1 → exec .faultRead s = refused) ∧
    (r.kind = 0x41 → (¬ (r.body.length = 4 ∧ byteAt r.body 1 = 0 ∨ r.body.length = 6 ∧ byteAt r.body 1 = 1) ∨
        8191 < beNat (field r.body 2 2)) → exec .faultClear s = refused) ∧
    (r.kind = 0x42 → (r.body.length ≠ 3 ∨ 8191 < beNat (field r.body 1 2)) → exec .faultEnable s = refused) ∧
    (r.kind = 0x43 → (¬ (r.body.length = 3 ∧ byteAt r.body 2 ∈ ([0, 2] : List Byte) ∨
        r.body.length = 4 ∧ byteAt r.body 2 ∈ ([1, 3] : List Byte) ∧ (byteAt r.body 3).toNat ≤ 12) ∨
        1 < (byteAt r.body 1).toNat) → exec .counterSet s = refused) ∧
    (r.kind = 0x44 → ¬ (r.body.length = 1 ∧ (byteAt r.body 0).toNat ≤ 3 ∨ r.body.length = 2 ∧ byteAt r.body 0 = 4) →
      exec .noticeMode s = refused) ∧
    (r.kind = 0x45 → (r.body.length ≠ 1 ∨ byteAt r.body 0 = 0 ∨ 8 < (byteAt r.body 0).toNat) →
      exec .logRead s = refused)

/-- A well-formed request for a link number above 63 or a CLOSED link is refused with NO-LINK and the number as written
(R59, R61, R175); of LINK-READ, ATTACH and NOTICE-MODE this holds for numbers above 63. -/
def Obligations.UnattachedLinksRefused : Prop :=
  ∀ (s : State) r rest b, s.Takes r rest →
    let refused := Host.Outcome.next (φ := Fault) (ρ := Refusal) (s.answered rest (answerOf r [0x11, b]))
    (s.Unattached b →
      (r.kind = 0x21 → r.body = [b] → exec .detach s = refused) ∧
      (r.kind = 0x24 → r.body = [b] → exec .keyRead s = refused) ∧
      (r.kind = 0x25 → r.body = [b] → exec .renew s = refused) ∧
      (r.kind = 0x40 → r.body = [b] → exec .faultRead s = refused) ∧
      (∀ list items, r.kind = 0x22 → r.body = b :: list → policyListOf list = some items →
        exec .policy s = refused) ∧
      (∀ payload, r.kind = 0x30 → r.body = b :: payload → payload.length ≤ 1024 → exec .encipher s = refused) ∧
      (∀ h k record, r.kind = 0x31 → r.body = b :: h :: k :: record → beNat [h, k] = record.length →
        exec .decipher s = refused) ∧
      (∀ m k, r.kind = 0x41 → r.body = [b, 0, m, k] → beNat [m, k] < 8192 → exec .faultClear s = refused) ∧
      (∀ m k h j, r.kind = 0x41 → r.body = [b, 1, m, k, h, j] → beNat [m, k] < 8192 →
        exec .faultClear s = refused) ∧
      (∀ m k, r.kind = 0x42 → r.body = [b, m, k] → beNat [m, k] < 8192 → exec .faultEnable s = refused) ∧
      (∀ c p, r.kind = 0x43 → r.body = [b, c, p] → c.toNat ≤ 1 → (p = 0 ∨ p = 2) →
        exec .counterSet s = refused) ∧
      (∀ c p k, r.kind = 0x43 → r.body = [b, c, p, k] → c.toNat ≤ 1 → (p = 1 ∨ p = 3) → k.toNat ≤ 12 →
        exec .counterSet s = refused)) ∧
    (63 < b.toNat →
      (r.kind = 0x23 → r.body = [b] → exec .linkRead s = refused) ∧
      (∀ (e : EntryNo) list items, r.kind = 0x20 → r.body = b :: byteOf e.val :: list →
        policyListOf list = some items → exec .attach s = refused) ∧
      (r.kind = 0x44 → r.body = [4, b] → exec .noticeMode s = refused))

/-! ## The root store (chapter 5) -/

/-- ROOT-LOAD: OCCUPIED, BAD-WRAP where the wrap does not verify, or the live view changed, a write requested and the
reply owed (R75, R76); what verifies is the model's ideal cipher (notes/assumptions/7.md). -/
def Obligations.RootLoadTaken : Prop :=
  ∀ (s : State) r rest (e : EntryNo) (shop : BitVec 32) (role : Role) (nonce : Nonce) wrapped tag floor,
    s.Takes r rest → r.kind = 0x10 → wrapped.length = 32 → tag.length = 16 → floor ≤ 4294967295 →
    r.body = byteOf e.val :: beBytes 4 shop.toNat ++ [if role = .hub then 0 else 1] ++ beBytes 12 nonce.toNat ++
      wrapped ++ tag ++ beBytes 4 floor →
    let header := beBytes 4 shop.toNat ++ [if role = .hub then 0 else 1]
    let enrolmentKey := s.identity.enrolmentKey
    ((s.root e).contents.isSome →
      exec .rootLoad s = .next (s.answered rest (answerOf r [0x15, byteOf e.val]))) ∧
    ((s.root e).contents = none → ¬ s.Opens enrolmentKey nonce header wrapped tag →
      exec .rootLoad s = .next (s.answered rest (answerOf r [0x16, byteOf e.val]))) ∧
    ∀ key : Key, (s.root e).contents = none → s.Opens enrolmentKey nonce header wrapped tag →
      wrapped = encipherBytes enrolmentKey nonce (beBytes 32 key.toNat) →
      exec .rootLoad s = .next ({ s with
        requests := rest
        roots := s.roots.put e { s.root e with
          contents := some { shopNumber := shop, role := role, key := key }
          inCounter := floor
          outCounter := (s.root e).stored.ceiling }
        rootReplies := s.rootReplies ++ [waitingReply r e] }.requestWrite e)

/-- ROOT-ERASE: NO-ROOT, ROOT-IN-USE, or the live view emptied with its counters kept, a write requested and the reply
owed (R77). -/
def Obligations.RootEraseTaken : Prop :=
  ∀ (s : State) r rest (e : EntryNo), s.Takes r rest → r.kind = 0x11 → r.body = [byteOf e.val] →
    ((s.root e).contents = none → exec .rootErase s = .next (s.answered rest (answerOf r [0x13, byteOf e.val]))) ∧
    ((s.root e).contents.isSome → (s.root e).bound.isSome →
      exec .rootErase s = .next (s.answered rest (answerOf r [0x14, byteOf e.val]))) ∧
    ((s.root e).contents.isSome → (s.root e).bound = none →
      exec .rootErase s = .next ({ s with
        requests := rest
        roots := s.roots.put e { s.root e with contents := none }
        rootReplies := s.rootReplies ++ [waitingReply r e] }.requestWrite e))

/-- The three effects of a write request, and the start of the head entry's write with its image from the live view
(R84). A write completes: the stored image becomes the write's, the entry goes to the tail of the queue under an again
mark and else leaves it, the record engine is told, the replies the write covers are placed in order, the next write
starts (R85), and slots released at this event go to the owed set and what contests them (R145, R146). That
NV_WRITE_START with a write in progress or an empty queue, and NV_WRITE_COMPLETION with no write in progress, change
nothing are the model's choices (notes/assumptions/1.md and 12.md). That slots a command leaves free are given out when
it ends is the model's reading (notes/assumptions/10.md). -/
def Obligations.NvWritesQueueAndComplete : Prop :=
  (∀ (s : State) e w, s.nvWrite = some w → w.entry = e →
    s.requestWrite e = { s with nvWrite := some { w with again := true } }) ∧
  (∀ (s : State) e, (∀ w, s.nvWrite = some w → w.entry ≠ e) → e ∈ s.nvQueue → s.requestWrite e = s) ∧
  (∀ (s : State) e, (∀ w, s.nvWrite = some w → w.entry ≠ e) → e ∉ s.nvQueue →
    s.requestWrite e = { s with nvQueue := s.nvQueue ++ [e] }) ∧
  (∀ (s : State) e queue, s.nvWrite = none → s.nvQueue = e :: queue →
    s.startWrite = { s with
      nvWrite := some { entry := e, again := false
                        image := { contents := (s.root e).contents, ceiling := (s.root e).ceiling,
                                   inCounter := (s.root e).inCounter } }
      rootReplies := s.rootReplies.map fun x : RootReply => if x.entry = e then { x with covered := true } else x }) ∧
  (∀ s : State, (s.nvWrite ≠ none ∨ s.nvQueue = []) → s.startWrite = s) ∧
  (∀ s : State, s.operating = true → exec .nvWriteStart s = .next s.startWrite) ∧
  (∀ (s u : State) (w : NvWrite) queue, s.operating = true → s.nvWrite = some w → s.nvQueue = w.entry :: queue →
    u = { s with
      roots := s.roots.put w.entry { s.root w.entry with stored := w.image }
      nvWrite := none
      nvQueue := queue ++ (if w.again then [w.entry] else []) }.reportWrite w.entry →
    exec .nvWriteCompletion s = .next { u with
      output := u.output ++ (u.rootReplies.filter fun x : RootReply => decide (x.entry = w.entry) && x.covered).map fun x : RootReply =>
        replyOf x.tag (x.kind + 0x80) [0x00, byteOf w.entry.val]
      rootReplies := u.rootReplies.filter fun x : RootReply => !(decide (x.entry = w.entry) && x.covered) }.startWrite.serveFreed) ∧
  ∀ s : State, s.operating = true → s.nvWrite = none → exec .nvWriteCompletion s = .next s

/-- What the record engine does at a completed write of the entry bound to its link: a waiting outbound root job is
ready once the new S is at least its L + 1; a HELD record once the new I is at least its counter acts, is answered
CONSUMED and is removed; a lower S or I does nothing, nor does the completion where no first job waits for it (R64, R79,
R83, R85, R96). -/
def Obligations.CompletedWriteReported : Prop :=
  (∀ (s : State) e, (s.root e).bound = none → s.reportWrite e = s) ∧
  (∀ (s : State) e l, (s.root e).bound = some l → (∀ x ∈ s.pool, x.link ≠ l) → s.reportWrite e = s) ∧
  ∀ (s : State) e l before j after, (s.root e).bound = some l → s.First l before j after →
    ((∃ lane, j.state = .inLane lane) ∨ j.state = .waiting ∧ (∀ n, j.work.claim ≠ some (n, .raising)) →
      s.reportWrite e = s) ∧
    (∀ n, j.state = .waiting → j.work.claim = some (n, .raising) →
      s.reportWrite e = if (s.root e).outCounter + 1 ≤ (s.root e).stored.ceiling
        then { s with pool := before ++ { j with work := j.work.withClaim .ready } :: after } else s) ∧
    (∀ content tag root record, j.state = .held content → j.work = .decipherRoot tag root record →
      ((s.root e).stored.inCounter < recordSequence record → s.reportWrite e = s) ∧
      (recordSequence record ≤ (s.root e).stored.inCounter →
        ∀ u : State,
          (∀ t, content = .offer t → u = s.validOffer l t) →
          (∀ reason, content = .ask reason →
            u = { s with renewals := s.renewals.put l { s.renewal l with lastAskReason := some reason } }.trigger l
              reason) →
          s.reportWrite e = ({ u with output := u.output ++ [replyOf tag 0xB1
            ([0x00, byteOf l.val, 0x01, recordKindByte record, recordEpochByte record] ++
              recordSequenceBytes record)] }.removeFirst l).settleFirst l))

/-! ## Links (chapter 7) -/

/-- LINK-READ, KEY-READ, ROOT-READ and FAULT-READ report the link's entry and context, its slots, the root entry and
the fault record as they stand, and change nothing (R33, R78, R122, R150, R170, R175). That a timer whose expiry is due
and not yet taken reports a remainder of 1 is the model's choice (notes/assumptions/2.md). That KEY-READ counts and
reports the NEXT of a link in KEYLESS is its reading (notes/assumptions/25.md). -/
def Obligations.ReadsAnswered : Prop :=
  (∀ (s : State) r rest (l : Link), s.Takes r rest → r.kind = 0x23 → r.body = [byteOf l.val] → s.entry l = none →
    exec .linkRead s = .next (s.answered rest (answerOf r [0x00, byteOf l.val, 0x00]))) ∧
  (∀ (s : State) r rest (l : Link) e, s.Takes r rest → r.kind = 0x23 → r.body = [byteOf l.val] →
    s.entry l = some e →
    let p := e.policy
    let c := s.renewal l
    let stepKind : Byte := match c.state with
      | .offered => if c.stepTimer = .stopped then 0 else 1
      | .asked => if c.stepTimer = .stopped then 0 else 2
      | .resting => if c.stepTimer = .stopped then 0 else 3
      | .idle => 0
      | .preparing => 0
      | .asking => 0
      | .proved => 0
    exec .linkRead s = .next (s.answered rest (answerOf r
      ([0x00, byteOf l.val, match e.state with | .keyless => 1 | .hunt => 2 | .up => 3 | .failing => 4,
        byteOf e.rootEntry.val] ++ beBytes 4 e.shopNumber.toNat ++
        [if e.role = .hub then 0 else 1, byteOf e.goodCount, byteOf e.badCount] ++
        beBytes 2 e.beatTimer.remainder ++ beBytes 2 e.silenceTimer.remainder ++
        beBytes 4 p.lockIn ++ beBytes 4 p.lockOut ++ beBytes 4 p.silenceTicks ++ beBytes 4 p.beatTicks ++
        beBytes 4 p.renewTicks ++ beBytes 4 p.wearLimit ++ beBytes 4 p.softEighths ++ beBytes 4 p.graceTicks ++
        beBytes 4 p.offerTicks ++ beBytes 4 p.offerTries ++ beBytes 4 p.restTicks ++
        beBytes 4 (if p.duplicates = .strict then 0 else 1) ++ beBytes 4 (if p.rekeyOnLoss then 1 else 0) ++
        [match c.state with
          | .idle => 0 | .preparing => 1 | .offered => 2 | .asking => 3 | .asked => 4 | .proved => 5 | .resting => 6,
         byteOf c.triesUsed, stepKind] ++
        beBytes 2 c.stepTimer.remainder ++ beBytes 4 c.renewalTimer.remainder ++
        [byteOf ((if c.dueMark then 1 else 0) + (if c.retryOwed then 2 else 0) + (if c.confirmOwed then 4 else 0)),
         reasonByte c.roundReason, reasonByte c.lastReason, reasonByte c.lastAskReason])))) ∧
  (∀ (s : State) r rest (l : Link), s.Takes r rest → r.kind = 0x24 → r.body = [byteOf l.val] → s.entry l ≠ none →
    let slot (role : Byte) (k : KeySlot) : List Byte :=
      [role, byteOf k.epoch] ++ beBytes 4 k.outSequence ++ beBytes 4 k.protectedBlocks ++ beBytes 4 k.openedBlocks ++
        beBytes 4 k.wearLimit ++ beBytes 4 k.softThreshold ++ [if k.softCrossed then 1 else 0] ++
        beBytes 4 k.window.high ++ beBytes 4 ((s.tickCount + 4294967296 - k.creationTick) % 4294967296)
    let k := s.keySet l
    exec .keyRead s = .next (s.answered rest (answerOf r
      ([0x00, byteOf l.val, byteOf ((if k.next = none then 0 else 1) + (if k.current = none then 0 else 1) +
          (if k.previous = none then 0 else 1))] ++
        (match k.next with | none => [] | some x => slot 0 x) ++
        (match k.current with | none => [] | some x => slot 1 x) ++
        (match k.previous with | none => [] | some x => slot 2 x ++ beBytes 2 k.grace.remainder))))) ∧
  (∀ (s : State) r rest (e : EntryNo), s.Takes r rest → r.kind = 0x12 → r.body = [byteOf e.val] →
    let x := s.root e
    exec .rootRead s = .next (s.answered rest (answerOf r
      ([0x00, byteOf e.val, byteOf ((if x.contents = none then 0 else 1) + (if e ∈ s.nvQueue then 2 else 0))] ++
        (match x.contents with
         | none => []
         | some c => beBytes 4 c.shopNumber.toNat ++ [if c.role = .hub then 0 else 1]) ++
        beBytes 4 x.stored.ceiling ++ beBytes 4 x.stored.inCounter ++ beBytes 4 x.ceiling ++ beBytes 4 x.outCounter ++
        beBytes 4 x.inCounter ++ [match x.bound with | none => 0xFF | some l => byteOf l.val])))) ∧
  ∀ (s : State) r rest (l : Link), s.Takes r rest → r.kind = 0x40 → r.body = [byteOf l.val] → s.entry l ≠ none →
    let x := s.faultRecord l
    exec .faultRead s = .next (s.answered rest (answerOf r
      ([0x00, byteOf l.val] ++ beBytes 2 x.flags.toNat ++ beBytes 2 x.enabled.toNat ++ beBytes 2 x.stamp ++
        (match x.capture with
         | none => [0x00]
         | some c =>
           [byteOf (1 + (if c.epoch = none then 0 else 2) + (if c.sequence = none then 0 else 4)), byteOf c.kind.code] ++
             beBytes 4 c.tick ++ (match c.epoch with | none => [] | some n => beBytes 1 n) ++
             (match c.sequence with | none => [] | some n => beBytes 4 n)) ++
        byteOf x.counterA.source.code :: beBytes 2 x.counterA.value ++
        byteOf x.counterB.source.code :: beBytes 2 x.counterB.value ++
        [byteOf ((if s.isPending l then 1 else 0) + (if x.noticeSent then 2 else 0) +
          (if l ∈ s.owed then 4 else 0))])))

/-- ATTACH: NOT-CLOSED, NO-ROOT, ROOT-IN-USE, or the binding, the entry with its clamped policy, the fault record's
starting values, a START trigger, and the reply (R74, R116, R117, R118); a slot released for a worn entry goes to the
owed set and what contests it (R145, R146). That slots a command leaves free are given out when it ends is the model's
reading (notes/assumptions/10.md). -/
def Obligations.AttachTaken : Prop :=
  ∀ (s : State) r rest (l : Link) (n : EntryNo) list items, s.Takes r rest → r.kind = 0x20 →
    r.body = byteOf l.val :: byteOf n.val :: list → policyListOf list = some items →
    (s.entry l ≠ none → exec .attach s = .next (s.answered rest (answerOf r [0x12, byteOf l.val]))) ∧
    (s.entry l = none → (s.root n).contents = none →
      exec .attach s = .next (s.answered rest (answerOf r [0x13, byteOf l.val]))) ∧
    (s.entry l = none → (s.root n).contents ≠ none → (s.root n).bound ≠ none →
      exec .attach s = .next (s.answered rest (answerOf r [0x14, byteOf l.val]))) ∧
    ∀ (c : RootContents) (u : State), s.entry l = none → (s.root n).contents = some c → (s.root n).bound = none →
      u = { s with
        requests := rest
        roots := s.roots.put n { s.root n with bound := some l }
        links := s.links.put l (some
          { state := .keyless, rootEntry := n, shopNumber := c.shopNumber, role := c.role,
            policy := Policy.default.writeAll items, goodCount := 0, badCount := 0, beatTimer := .stopped,
            silenceTimer := .stopped })
        faults := s.faults.put l FaultRecord.initial }.trigger l .start →
      let reply : OutFrame := answerOf r
        ([if clampedFields items = [] then 0x00 else 0x01, byteOf l.val, if c.role = .hub then 0 else 1,
          byteOf (clampedFields items).length] ++ (clampedFields items).map byteOf)
      exec .attach s = .next { u with output := u.output ++ [reply] }.serveFreed

/-- DETACH: every block drops what it holds for the link, its host jobs are answered ABORTED in their order, freed slots
go to the owed set and what contests them (R145, R146), and the reply follows (R70, R119). -/
def Obligations.DetachCloses : Prop :=
  ∀ (s : State) r rest (l : Link) e u, s.Takes r rest → r.kind = 0x21 → r.body = [byteOf l.val] →
    s.entry l = some e →
    u = { s with
      requests := rest
      pool := s.pool.filter fun j : Job => j.link ≠ l
      output := s.output ++ (s.pool.filter fun j : Job => j.link = l).filterMap fun j : Job =>
        (match j.work with
         | .encipher tag .. => some (tag, 0xB0#8)
         | .decipherTraffic tag .. => some (tag, 0xB1#8)
         | .decipherRoot tag .. => some (tag, 0xB1#8)
         | _ => none).map fun x : Byte × Byte =>
          replyOf x.1 x.2 [0x1C, byteOf l.val]
      keys := s.keys.put l KeySet.empty
      renewals := s.renewals.put l RenewalContext.initial
      faults := s.faults.put l FaultRecord.initial
      owed := s.owed.filter fun x => x ≠ l
      roots := s.roots.put e.rootEntry { s.root e.rootEntry with bound := none }
      links := s.links.put l none } →
    (u.owed = [] → exec .detach s = .next { u with output := u.output ++ [answerOf r [0x00, byteOf l.val]] }) ∧
    (u.owed ≠ [] → exec .detach s = .next
      { u.serveFreed with output := u.serveFreed.output ++ [answerOf r [0x00, byteOf l.val]] })

/-- POLICY: the given fields written, the beat timer moved where beat_ticks crosses zero (R120, R121). -/
def Obligations.PolicyTaken : Prop :=
  ∀ (s : State) r rest (l : Link) e list items, s.Takes r rest → r.kind = 0x22 → r.body = byteOf l.val :: list →
    policyListOf list = some items → s.entry l = some e →
    let policy := e.policy.writeAll items
    let outbound := (s.keySet l).slot (outboundRoleOf e (s.renewal l))
    exec .policy s = .next ({ s with links := s.links.put l (some { e with
        policy := policy
        beatTimer := if policy.beatTicks = 0 then .stopped
          else if e.policy.beatTicks ≠ 0 then e.beatTimer
          else if outbound = none then .stopped
          else .running policy.beatTicks }) }.answered rest (answerOf r
      ([if clampedFields items = [] then 0x00 else 0x01, byteOf l.val, byteOf (clampedFields items).length] ++
        (clampedFields items).map byteOf)))

/-- A policy list written from field numbers and values reads back as those fields where every number is one of the
thirteen and stands once and the enumerated fields hold 0 or 1, and is malformed otherwise, as is a list whose length is
no multiple of 5. Each field written takes the given value brought within its range, beat_ticks 0 apart, and no other
field moves; the clamped fields are those whose value was moved; the defaults are those of the table (R115, R116,
R174). -/
def Obligations.PolicyListsReadAndClamped : Prop :=
  (∀ items : List (Nat × Nat), (∀ x ∈ items, x.1 < 256 ∧ x.2 < 4294967296) →
    ((∀ x ∈ items, (1 ≤ x.1 ∧ x.1 ≤ 13) ∧ (12 ≤ x.1 → x.2 ≤ 1)) ∧ (items.map Prod.fst).Nodup →
      policyListOf (items.flatMap fun x => byteOf x.1 :: beBytes 4 x.2) = some items) ∧
    (¬ ((∀ x ∈ items, (1 ≤ x.1 ∧ x.1 ≤ 13) ∧ (12 ≤ x.1 → x.2 ≤ 1)) ∧ (items.map Prod.fst).Nodup) →
      policyListOf (items.flatMap fun x => byteOf x.1 :: beBytes 4 x.2) = none)) ∧
  (∀ bytes : List Byte, bytes.length % 5 ≠ 0 → policyListOf bytes = none) ∧
  let bounds : List (Nat × Nat) := [(1, 15), (1, 15), (10, 65535), (5, 65535), (600, 16777215), (4096, 4294967295),
    (1, 7), (1, 65535), (10, 65535), (1, 7), (50, 65535), (0, 1), (0, 1)]
  Policy.default.values = [3, 4, 600, 150, 864000, 4294967295, 6, 300, 50, 3, 600, 1, 1] ∧
  (∀ (p : Policy) n v lo hi, 1 ≤ n → bounds[n - 1]? = some (lo, hi) → (12 ≤ n → v ≤ 1) →
    (p.write (n, v)).values = p.values.set (n - 1)
      (if n = 4 ∧ v = 0 then 0 else if v < lo then lo else if hi < v then hi else v)) ∧
  (∀ (p : Policy) items item, p.writeAll (item :: items) = (p.write item).writeAll items) ∧
  ∀ items : List (Nat × Nat), (clampedFields items).Pairwise (· < ·) ∧
    ∀ n, n ∈ clampedFields items ↔ 1 ≤ n ∧ n ≤ 11 ∧ ∃ v lo hi, (n, v) ∈ items ∧ bounds[n - 1]? = some (lo, hi) ∧
      (v < lo ∨ hi < v) ∧ ¬ (n = 4 ∧ v = 0)

/-- The verdicts: the moves of the supervision state machine and the reload of the silence timer (R124, R125, R126,
R127, R129, R131). -/
def Obligations.VerdictsMove : Prop :=
  ∀ (s : State) l e, s.entry l = some e →
    let hold (x : LinkEntry) : State := { s with links := s.links.put l (some x) }
    let heard := Timer.running e.policy.silenceTicks
    (e.state = .keyless → s.goodVerdict l = s ∧ s.badVerdict l = s) ∧
    (e.state = .hunt →
      s.goodVerdict l = (if e.policy.lockIn ≤ e.goodCount + 1
        then hold { e with state := .up, goodCount := 0, silenceTimer := heard }
        else hold { e with goodCount := e.goodCount + 1, silenceTimer := heard }) ∧
      s.badVerdict l = hold { e with goodCount := 0 }) ∧
    (e.state = .up → s.goodVerdict l = hold { e with silenceTimer := heard } ∧
      (2 ≤ e.policy.lockOut → s.badVerdict l = hold { e with state := .failing, badCount := 1 })) ∧
    (e.state = .failing → s.goodVerdict l = hold { e with state := .up, badCount := 0, silenceTimer := heard } ∧
      (e.badCount + 1 < e.policy.lockOut → s.badVerdict l = hold { e with badCount := e.badCount + 1 })) ∧
    ((e.state = .up ∧ e.policy.lockOut ≤ 1 ∨ e.state = .failing ∧ e.policy.lockOut ≤ e.badCount + 1) →
      let lost := (hold { e with state := .hunt, goodCount := 0, badCount := 0 }).occurrence l .loss none none
      s.badVerdict l = if e.policy.rekeyOnLoss then lost.trigger l .loss else lost)

/-! ## Renewal (chapter 6) -/

/-- RENEW: BUSY outside IDLE and RESTING; else a HOST trigger and a reply with the state it left (R108), which is
RESTING where the OFFER or ASK accepted at this event is at once removed for a worn entry (the model's reading,
notes/assumptions/24.md). A trigger: it records its reason in every state, and in IDLE or RESTING it begins a round in
PREPARING or ASKING and requests its OFFER or ASK at the same event (R90, R91, R92). That slots a command leaves free
are given out when it ends is the model's reading (notes/assumptions/10.md). -/
def Obligations.RenewAndTriggerTaken : Prop :=
  (∀ (s : State) r rest (l : Link) e (u : State), s.Takes r rest → r.kind = 0x25 → r.body = [byteOf l.val] →
    s.entry l = some e → u = { s with requests := rest }.trigger l .host →
    ((s.renewal l).state ≠ .idle → (s.renewal l).state ≠ .resting →
      exec .renew s = .next (s.answered rest (answerOf r [0x17, byteOf l.val]))) ∧
    ((s.renewal l).state = .idle ∨ (s.renewal l).state = .resting →
      exec .renew s = .next
        { u with output := u.output ++ [answerOf r [0x00, byteOf l.val, (u.renewal l).state.code]] }.serveFreed)) ∧
  ∀ (s : State) l e reason, s.entry l = some e →
    let c := s.renewal l
    let begun (state : RenewalState) : State := { s with renewals := s.renewals.put l { c with
      state := state, lastReason := some reason, roundReason := some reason, triesUsed := 0, retryOwed := false,
      stepTimer := .stopped, claimDue := false } }
    (c.state ≠ .idle → c.state ≠ .resting →
      s.trigger l reason = { s with renewals := s.renewals.put l { c with lastReason := some reason } }) ∧
    (c.state = .idle ∨ c.state = .resting → e.role = .hub → s.trigger l reason = (begun .preparing).requestOffer l) ∧
    (c.state = .idle ∨ c.state = .resting → e.role = .shop → s.trigger l reason = (begun .asking).requestAsk l)

/-- The requests of a round: refused for room they change nothing but a retry's owed mark; accepted, a hub's first OFFER
creates the NEXT with its epoch and fresh mark, a retry copies it, an ASK carries the round reason, and the job joins its
link's list (R13, R18, R20, R21, R93, R95, R97, R98). -/
def Obligations.RoundRequests : Prop :=
  ∀ (s : State) l e root, s.entry l = some e → (s.root e.rootEntry).contents = some root →
    let c := s.renewal l
    let k := s.keySet l
    let binding : RootBinding := { entry := e.rootEntry, key := root.key }
    let room := s.pool.length < 32 ∧ s.unsolicitedInUse < 16
    let epoch := match k.current with | none => 1 | some x => x.epoch % 255 + 1
    let slot : KeySlot :=
      { epoch := epoch, key := Config.randomKey s.draws, salt := Config.randomSalt s.draws,
        wearLimit := e.policy.wearLimit, softThreshold := e.policy.wearLimit * e.policy.softEighths / 8,
        outSequence := 0, protectedBlocks := 0, openedBlocks := 0, softCrossed := false,
        window := { high := 0, seen := [] }, creationTick := s.tickCount }
    let offer (n : KeySlot) : Job :=
      waitingJob l (.offer binding
        { epoch := n.epoch, fresh := k.current.isNone, key := n.key, salt := n.salt } .unasked)
    let owing : State := { s with renewals := s.renewals.put l { c with retryOwed := true } }
    (¬ room → s.requestOffer l = s ∧ s.requestAsk l = s ∧ s.retryOffer l = owing ∧ s.retryAsk l = owing) ∧
    (room → s.requestOffer l = { s with
      draws := s.draws + 1
      keys := s.keys.put l { k with next := some slot }
      pool := s.pool ++ [offer slot]
      renewals := s.renewals.put l { c with state := .offered, triesUsed := 1, claimDue := false } }.settleFirst l) ∧
    (∀ n, room → k.next = some n → s.retryOffer l = { s with
      pool := s.pool ++ [offer n]
      renewals := s.renewals.put l { c with triesUsed := c.triesUsed + 1, retryOwed := false } }.settleFirst l) ∧
    ∀ reason, room → c.roundReason = some reason →
      let ask : Job := waitingJob l (.ask binding reason .unasked)
      s.requestAsk l = { s with
        pool := s.pool ++ [ask]
        renewals := s.renewals.put l { c with state := .asked, triesUsed := 1, claimDue := false } }.settleFirst l ∧
      s.retryAsk l = { s with
        pool := s.pool ++ [ask]
        renewals := s.renewals.put l { c with triesUsed := c.triesUsed + 1, retryOwed := false } }.settleFirst l

/-- A link's list has gained a first job: an outbound root job asks for its counter and is answered ready, raising
(with the ceiling raised by 16 and a write requested unless a raise is queued) or worn (removed, its slot released, the
round failed, and the next job first); any other job is left as it is. A round fails with RENEW-FAIL, a hub's NEXT erased,
and the context RESTING with the rest timer loaded (R56, R67, R79, R81, R101). That the slot is released before RENEW-FAIL
is reported, and the next job asks after it, is the model's reading (notes/assumptions/10.md). -/
def Obligations.FirstJobAsks : Prop :=
  (∀ (s : State) l,
    ((∀ x ∈ s.pool, x.link ≠ l) → s.settleFirst l = s) ∧
    ∀ before j after, s.First l before j after →
      ((j.state ≠ .waiting ∨ ∀ n, j.work.claim ≠ some (n, .unasked)) → s.settleFirst l = s) ∧
      ∀ n, j.state = .waiting → j.work.claim = some (n, .unasked) →
        let x := s.root n
        let answered (c : CounterClaim) : State :=
          { s with pool := before ++ { j with work := j.work.withClaim c } :: after }
        (x.outCounter < 4294967295 → x.outCounter + 1 ≤ x.stored.ceiling → s.settleFirst l = answered .ready) ∧
        (x.outCounter < 4294967295 → x.stored.ceiling < x.outCounter + 1 → x.outCounter + 1 ≤ x.ceiling →
          s.settleFirst l = answered .raising) ∧
        (x.outCounter < 4294967295 → x.stored.ceiling < x.outCounter + 1 → x.ceiling < x.outCounter + 1 →
          s.settleFirst l = { answered .raising with
            roots := s.roots.put n { x with ceiling := min (x.stored.ceiling + 16) 4294967295 } }.requestWrite n) ∧
        (4294967295 ≤ x.outCounter → s.settleFirst l =
          (({ s with pool := before ++ after }.serveReleased).wornRoot l).settleFirst l)) ∧
  (∀ (s : State) l,
    ((s.renewal l).state = .offered ∨ (s.renewal l).state = .asked → s.wornRoot l = s.failRound l) ∧
    ((s.renewal l).state ≠ .offered → (s.renewal l).state ≠ .asked → s.wornRoot l = s)) ∧
  ∀ (s : State) l e u, s.entry l = some e → u = s.occurrence l .renewFail none none →
    s.failRound l = { u with
      keys := if e.role = .hub then s.keys.put l { s.keySet l with next := none } else s.keys
      renewals := s.renewals.put l { s.renewal l with
        state := .resting, stepTimer := .running e.policy.restTicks, retryOwed := false, claimDue := false } }

/-- The key set is promoted: PREVIOUS erased, CURRENT to PREVIOUS with a full grace remainder, NEXT to CURRENT; a
KEYLESS link enters HUNT and a beat timer starts where an outbound slot appears; the round ends, the renewal timer is
loaded, and at a hub waiting OFFERs are withdrawn and the confirming beat is requested, in contest for the slots they
held where links are owed (R24, R25, R29, R103, R105, R146). In which order the claims on those slots are taken is a
free value, and what is left of them may wait for the command's end (the model's readings, notes/assumptions/8.md and
10.md). -/
def Obligations.PromotionTaken : Prop :=
  ∀ (s : State) l e, s.entry l = some e →
    let k := s.keySet l
    let outbound := k.slot (outboundRoleOf e (s.renewal l))
    let ended (owed : Bool) : RenewalContext := { s.renewal l with
      state := .idle, dueMark := false, stepTimer := .stopped, retryOwed := false, claimDue := false,
      renewalTimer := .running e.policy.renewTicks, confirmOwed := owed }
    let moved (owed : Bool) : State := { s with
      keys := s.keys.put l { next := none, current := k.next, previous := k.current
                             grace := if k.current = none then .stopped else .running e.policy.graceTicks }
      links := s.links.put l (some { e with
        state := if e.state = .keyless then .hunt else e.state
        beatTimer := if outbound ≠ none then e.beatTimer
          else if e.policy.beatTicks = 0 then .stopped else .running e.policy.beatTicks })
      renewals := s.renewals.put l (ended owed) }
    (e.role = .shop → s.promote l e = moved (s.renewal l).confirmOwed) ∧
    (e.role = .hub → s.promote l e = { moved true with
      pool := s.pool.filter fun j : Job => !(decide (j.link = l) && decide (j.state = JobState.waiting) && j.work.isOffer)
    }.contest l (State.requestConfirm · l))

/-- A shop takes a released OFFER by the five lines of R22's table: stale, retried, fresh, conflicting with CURRENT, any
other; all but the stale end the round in PROVED, withdraw waiting ASKs and request a PROOF, in contest for the slots
they held where links are owed (R22, R29, R99, R100, R146). In which order the claims on those slots are taken is a free
value, and what is left of them may wait for the command's end (the model's readings, notes/assumptions/8.md and 10.md).
-/
def Obligations.OfferTaken : Prop :=
  ∀ (s : State) l e (t : OfferText), s.entry l = some e →
    let k := s.keySet l
    let c := s.renewal l
    let stale := ∃ x, k.current = some x ∧ x.epoch = t.epoch ∧ x.key = t.key
    let retried := ∃ x, k.next = some x ∧ x.epoch = t.epoch ∧ x.key = t.key ∧ x.salt = t.salt
    let slot : KeySlot :=
      { epoch := t.epoch, key := t.key, salt := t.salt, wearLimit := e.policy.wearLimit,
        softThreshold := e.policy.wearLimit * e.policy.softEighths / 8, outSequence := 0, protectedBlocks := 0,
        openedBlocks := 0, softCrossed := false, window := { high := 0, seen := [] }, creationTick := s.tickCount }
    let taken (keys : KeySet) (entry : LinkEntry) (renewalTimer : Timer) : State :=
      { s with
        keys := s.keys.put l keys
        links := s.links.put l (some entry)
        renewals := s.renewals.put l { c with
          state := .proved, stepTimer := .stopped, retryOwed := false, claimDue := false
          renewalTimer := renewalTimer }
        pool := s.pool.filter fun j : Job => !(decide (j.link = l) && decide (j.state = JobState.waiting) && j.work.isAsk)
      }.contest l (State.requestProof · l)
    let started := if e.policy.beatTicks = 0 then Timer.stopped else Timer.running e.policy.beatTicks
    let only : KeySet := { next := some slot, current := none, previous := none, grace := .stopped }
    (stale → s.validOffer l t = s) ∧
    (e.role = .shop → ¬ stale →
      (retried → c.state = .proved → s.validOffer l t = taken k e c.renewalTimer) ∧
      (¬ retried → (t.fresh = true ∨ ∃ x, k.current = some x ∧ x.epoch = t.epoch) →
        (∀ x, k.current = some x → s.validOffer l t = taken only
          { e with state := .keyless, goodCount := 0, badCount := 0, silenceTimer := .stopped
                   beatTimer := if c.state = .proved then e.beatTimer else started } .stopped) ∧
        (k.current = none → s.validOffer l t = taken only
          { e with beatTimer := if c.state = .proved then e.beatTimer else started } c.renewalTimer)) ∧
      (¬ retried → t.fresh = false → (∀ x, k.current = some x → x.epoch ≠ t.epoch) →
        s.validOffer l t = taken
          (if ∃ x, k.previous = some x ∧ x.epoch = t.epoch
            then { next := some slot, current := k.current, previous := none, grace := .stopped }
            else { k with next := some slot })
          { e with beatTimer := if c.state = .proved ∨ k.current ≠ none then e.beatTimer else started }
          c.renewalTimer))

/-! ## The record engine (chapter 4) -/

/-- ENCIPHER: NO-KEY, FULL (28 host jobs; a pool of 32 is the model's reading, notes/assumptions/9.md), SPENT, or the
charge, the job with its sequence and copy, the beat timer reloaded, the confirm-owed mark cleared and the soft crossing
test (R23, R38, R40, R59, R104, R132). That the job joins its list before the soft crossing test and its WEAR trigger is
the model's reading (notes/assumptions/18.md). That slots a command leaves free are given out when it ends is the
model's reading (notes/assumptions/10.md). -/
def Obligations.EncipherTaken : Prop :=
  ∀ (s : State) r rest (l : Link) e payload, s.Takes r rest → r.kind = 0x30 → r.body = byteOf l.val :: payload →
    payload.length ≤ 1024 → s.entry l = some e →
    let role := outboundRoleOf e (s.renewal l)
    let room := s.hostJobs < 28 ∧ s.pool.length < 32
    let n := (payload.length + 15) / 16 + 2
    ((s.keySet l).slot role = none →
      exec .encipher s = .next (s.answered rest (answerOf r [0x19, byteOf l.val]))) ∧
    ∀ k, (s.keySet l).slot role = some k →
      let fits := k.outSequence < 4294967295 ∧ k.protectedBlocks + n ≤ k.wearLimit
      (¬ room → exec .encipher s = .next (s.answered rest (answerOf r [0x18, byteOf l.val]))) ∧
      (room → ¬ fits →
        ∀ u v : State, u = { s with requests := rest }.occurrence l .spent (some k.epoch) none →
          v = (if (s.renewal l).state = .idle ∨ (s.renewal l).state = .resting then u.trigger l .spent else u) →
          exec .encipher s = .next { v with output := v.output ++ [answerOf r [0x1A, byteOf l.val]] }.serveFreed) ∧
      (room → fits →
        exec .encipher s = .next (({ s with
          requests := rest
          keys := s.keys.put l ((s.keySet l).withSlot role (some { k with
            outSequence := k.outSequence + 1, protectedBlocks := k.protectedBlocks + n }))
          pool := s.pool ++ [waitingJob l (.encipher r.tag
            { role := role, epoch := k.epoch, key := k.key, salt := k.salt } (k.outSequence + 1) payload)]
          links := s.links.put l (some { e with beatTimer :=
            if e.beatTimer = Timer.stopped ∨ e.policy.beatTicks = 0 then Timer.stopped else .running e.policy.beatTicks })
          renewals := s.renewals.put l { s.renewal l with confirmOwed := false, confirmDue := false }
        }.softCross l role).serveFreed))

/-- The soft crossing test: on the CURRENT, or on a shop's NEXT in PROVED, with the mark clear and the work at the
threshold or the sequence at half its range, the mark is set and a WEAR trigger raised; else nothing (R43, R44). -/
def Obligations.SoftCrossingTested : Prop :=
  ∀ (s : State) l e role k, s.entry l = some e → (s.keySet l).slot role = some k →
    let evaluated := role = .current ∨ role = .next ∧ e.role = .shop ∧ (s.renewal l).state = .proved
    let met := k.softCrossed = false ∧
      (k.softThreshold ≤ k.protectedBlocks + k.openedBlocks ∨ 2147483648 ≤ k.outSequence)
    (evaluated → met → s.softCross l role =
      { s with keys := s.keys.put l ((s.keySet l).withSlot role (some { k with softCrossed := true })) }.trigger l
        .wear) ∧
    (¬ (evaluated ∧ met) → s.softCross l role = s)

/-- A request for a BEAT or PROOF: refused for room, for no key, for wear with the effects of R40, or accepted with its
charge of 2 blocks like any outbound record (R40, R65). That the job joins its list before the soft crossing test and its
WEAR trigger is the model's reading (notes/assumptions/18.md). -/
def Obligations.TrafficRequested : Prop :=
  ∀ (s : State) l e (work : SlotBinding → Nat → Work), s.entry l = some e →
    let role := outboundRoleOf e (s.renewal l)
    let room := s.pool.length < 32 ∧ s.unsolicitedInUse < 16
    (¬ room → s.controlAnswer l = .noRoom ∧ s.requestTraffic l work = s) ∧
    (room → (s.keySet l).slot role = none → s.controlAnswer l = .noKey ∧ s.requestTraffic l work = s) ∧
    ∀ k, room → (s.keySet l).slot role = some k →
      let fits := k.outSequence < 4294967295 ∧ k.protectedBlocks + 2 ≤ k.wearLimit
      (¬ fits → s.controlAnswer l = .spent ∧
        ∀ u, u = s.occurrence l .spent (some k.epoch) none →
          s.requestTraffic l work =
            if (s.renewal l).state = .idle ∨ (s.renewal l).state = .resting then u.trigger l .spent else u) ∧
      (fits → s.controlAnswer l = .accepted ∧ s.requestTraffic l work = { s with
        keys := s.keys.put l ((s.keySet l).withSlot role (some { k with
          outSequence := k.outSequence + 1, protectedBlocks := k.protectedBlocks + 2 }))
        pool := s.pool ++ [waitingJob l
          (work { role := role, epoch := k.epoch, key := k.key, salt := k.salt } (k.outSequence + 1))]
        links := s.links.put l (some { e with beatTimer :=
          if e.beatTimer = Timer.stopped ∨ e.policy.beatTicks = 0 then Timer.stopped else .running e.policy.beatTicks })
        renewals := s.renewals.put l { s.renewal l with confirmOwed := false, confirmDue := false }
      }.softCross l role)

/-- DECIPHER: a malformed header gives FORM and a traffic record without a slot EPOCH, answered at once with the
occurrence and, but for the root kinds, a bad verdict; where the verdict loses lock either report may come first; a
record that passes becomes a job with its copies, or is refused with FULL (R15, R30, R61, R142, R176). FULL at a pool
of 32 with fewer than 28 host jobs is the model's reading (notes/assumptions/9.md), and so is that the order of the two
reports is open at a header drop and that the bad verdict, with its LOSS and trigger, is taken before the reply
(notes/assumptions/11.md). That slots a command leaves free are given out when it ends is the model's reading
(notes/assumptions/10.md). -/
def Obligations.DecipherTaken : Prop :=
  ∀ (s : State) r rest (l : Link) e h k record, s.Takes r rest → r.kind = 0x31 →
    r.body = byteOf l.val :: h :: k :: record → beNat [h, k] = record.length → s.entry l = some e →
    let u := { s with requests := rest }
    let kind := (recordKindByte record).toNat
    let long := 12 ≤ record.length
    let epoch := if long then some (recordEpoch record) else none
    let sequence := if long then some (recordSequence record) else none
    let room := s.hostJobs < 28 ∧ s.pool.length < 32
    let dropped (v : State) (fault : FaultKind) : State := { v with output := v.output ++ [answerOf r
      ([0x00, byteOf l.val, 0x02, byteOf fault.code, recordKindByte record, recordEpochByte record] ++
        recordSequenceBytes record)] }.serveFreed
    let drops (fault : FaultKind) : Prop :=
      (kind = 4 ∨ kind = 5 → exec .decipher s = .next (dropped (u.occurrence l fault epoch sequence) fault)) ∧
      (kind ≠ 4 → kind ≠ 5 → e.losesLock = false →
        exec .decipher s = .next (dropped ((u.occurrence l fault epoch sequence).badVerdict l) fault)) ∧
      (kind ≠ 4 → kind ≠ 5 → e.losesLock = true →
        let v : State := { u with choices := u.choices + 1 }
        exec .decipher s = .next (dropped ((v.occurrence l fault epoch sequence).badVerdict l) fault) ∨
        exec .decipher s = .next (dropped ((v.badVerdict l).occurrence l fault epoch sequence) fault))
    (Malformed e.role e.shopNumber record → drops .form) ∧
    (¬ Malformed e.role e.shopNumber record → kind ≤ 3 →
      (∀ role x, (s.keySet l).slot role = some x → x.epoch ≠ recordEpoch record) → drops .epoch) ∧
    (¬ Malformed e.role e.shopNumber record → kind ≤ 3 → ∀ role x, (s.keySet l).slot role = some x →
      x.epoch = recordEpoch record →
      (∀ role' y, (s.keySet l).slot role' = some y → y.epoch = recordEpoch record → role' = role) →
      (room → exec .decipher s = .next { u with pool := s.pool ++ [waitingJob l (.decipherTraffic r.tag
        { role := role, epoch := x.epoch, key := x.key, salt := x.salt } record)] }) ∧
      (¬ room → exec .decipher s = .next (s.answered rest (answerOf r [0x18, byteOf l.val])))) ∧
    (¬ Malformed e.role e.shopNumber record → 4 ≤ kind → ∀ c, (s.root e.rootEntry).contents = some c →
      (room → exec .decipher s = .next { u with pool := s.pool ++ [waitingJob l
        (.decipherRoot r.tag { entry := e.rootEntry, key := c.key } record)] }) ∧
      (¬ room → exec .decipher s = .next (s.answered rest (answerOf r [0x18, byteOf l.val]))))

/-- A free lane takes the first job of the first link, in the order pointer + 1, …, pointer, that has an eligible one; an
outbound root job takes the counter L + 1 at its grant, and L with it (R55, R56, R58). That GRANT names its lane, and that
a GRANT of a busy lane or with no eligible job changes nothing, are the model's choices (notes/assumptions/13.md and
1.md). -/
def Obligations.GrantIsRoundRobin : Prop :=
  ∀ (s : State) lane, s.operating = true →
    let eligible (l : Link) : Prop := ∃ before j after, s.First l before j after ∧ j.state = .waiting ∧
      ∀ e c, j.work.claim = some (e, c) → c = .ready
    ((∃ j ∈ s.pool, j.state = .inLane lane) ∨ (∀ l, ¬ eligible l) → exec (.grant lane) s = .next s) ∧
    ∀ (d : Fin 64) before j after, (∀ x ∈ s.pool, x.state ≠ .inLane lane) → (∀ d' < d, ¬ eligible (s.pointer + 1 + d')) →
      s.First (s.pointer + 1 + d) before j after → j.state = .waiting →
      (j.work.claim = none → exec (.grant lane) s = .next { s with
        pool := before ++ { j with state := .inLane lane } :: after
        pointer := s.pointer + 1 + d }) ∧
      ∀ e, j.work.claim = some (e, .ready) → exec (.grant lane) s = .next { s with
        pool := before ++ { j with state := .inLane lane
                                   work := j.work.withClaim (.taken ((s.root e).outCounter + 1)) } :: after
        roots := s.roots.put e { s.root e with outCounter := (s.root e).outCounter + 1 }
        pointer := s.pointer + 1 + d }

/-- A record verifies only if it was protected, outside the part or by it, under that key, nonce and header with that
body and tag; so under one tag only one key, nonce, header and body verify, and under one key, nonce, header and body only
one tag; the nonces of a link's two directions never meet, so a record this part protected fails where it comes back to
it, as it does under any other key or nonce; and it verifies under its own and deciphers to its payload (R5, R6, R7, R8,
R9, R182). The property is that of R5; that a tag two protections of the part share verifies for neither is the model's
ideal (notes/assumptions/7.md). -/
def Obligations.RecordsVerifyOnlyAsProtected : Prop :=
  (∀ (s : State) key nonce r, s.Verifies key nonce r →
    let p : Protection := { key := key, nonce := nonce, header := r.take 12, body := field r 12 (r.length - 28) }
    r.drop (r.length - 16) = beBytes 16 (protectionTag p).toNat ∧
      (Config.origin (protectionTag p) = some p ∨ p ∈ s.protections)) ∧
  (∀ (s : State) key nonce key' nonce' r r', 28 ≤ r.length → 28 ≤ r'.length → s.Verifies key nonce r →
    s.Verifies key' nonce' r' → r.drop (r.length - 16) = r'.drop (r'.length - 16) →
    key = key' ∧ nonce = nonce' ∧ r = r') ∧
  (∀ (s : State) key nonce r r', 28 ≤ r.length → 28 ≤ r'.length → s.Verifies key nonce r → s.Verifies key nonce r' →
    r.take (r.length - 16) = r'.take (r'.length - 16) → r = r') ∧
  (∀ role salt n salt' n', sentNonce role salt n ≠ receivedNonce role salt' n') ∧
  ∀ (s : State) key nonce header payload, header.length = 12 → protectionOf key nonce header payload ∈ s.protections →
    let record := protect key nonce header payload
    (∀ key' nonce', (key', nonce') ≠ (key, nonce) → ¬ s.Verifies key' nonce' record) ∧
    (∀ role salt n salt' n' key', nonce = sentNonce role salt n →
      ¬ s.Verifies key' (receivedNonce role salt' n') record) ∧
    ((∀ x ∈ s.protections, protectionTag x = protectionTag (protectionOf key nonce header payload) →
        x = protectionOf key nonce header payload) →
      s.Verifies key nonce record ∧ decipherBytes key nonce (field record 12 (record.length - 28)) = payload)

/-- An ENCIPHER job completes: the ENCIPHERED reply with the record built from the job's copy, the job removed, and the
next job of the link first (R8, R10, R31, R60); the protection made is kept among those of the part (the model's own
record, notes/assumptions/7.md). That slots a command leaves free are given out when it ends is the model's reading
(notes/assumptions/10.md). -/
def Obligations.EncipherCompletes : Prop :=
  ∀ (s : State) lane before j after e tag slot sequence payload, s.operating = true → s.InLane lane before j after →
    s.entry j.link = some e → j.work = .encipher tag slot sequence payload →
    let header := [0x01, byteOf slot.epoch] ++ beBytes 4 e.shopNumber.toNat ++ beBytes 4 sequence ++
      beBytes 2 payload.length
    let nonce := sentNonce e.role slot.salt sequence
    exec (.encipherCompletion lane) s = .next (({ s with
      pool := before ++ after
      protections := s.protections ++ [protectionOf slot.key nonce header payload]
      output := s.output ++ [replyOf tag 0xB0 ([0x00, byteOf j.link.val, byteOf slot.epoch] ++ beBytes 4 sequence ++
        protect slot.key nonce header payload)] }.settleFirst j.link).serveFreed)

/-- A traffic record that verifies, finds its slot by epoch and key, and is accepted by its window: charged, tested for
the soft crossing, a promotion under NEXT, a good verdict, and DELIVERED or CONSUMED (R32, R42, R47, R62). That slots a
command leaves free are given out when it ends is the model's reading (notes/assumptions/10.md). That a record
verifies, or does not, is the model's ideal cipher (notes/assumptions/7.md). -/
def Obligations.TrafficAccepted : Prop :=
  ∀ (s : State) lane before j after e tag slot record role k, s.operating = true → s.InLane lane before j after →
    s.entry j.link = some e → j.work = .decipherTraffic tag slot record →
    s.Verifies slot.key (receivedNonce e.role slot.salt (recordSequence record)) record →
    (s.keySet j.link).slot role = some k → k.epoch = recordEpoch record → k.key = slot.key →
    (∀ role' x, (s.keySet j.link).slot role' = some x → x.epoch = recordEpoch record → role' = role) →
    (k.window.high < recordSequence record ∨
      k.window.high ≤ recordSequence record + 63 ∧ recordSequence record ∉ k.window.seen) →
    ∀ u v w : State,
      u = { s with keys := s.keys.put j.link ((s.keySet j.link).withSlot role (some { k with
        openedBlocks := min (k.openedBlocks + ((recordLength record + 15) / 16 + 2)) 4294967295
        window := k.window.accept (recordSequence record) })) }.softCross j.link role →
      v = (if role = .next then u.promote j.link e else u) →
      w = v.goodVerdict j.link →
      exec (.trafficDecipherCompletion lane) s = .next ((({ w with output := w.output ++ [replyOf tag 0xB1
        ([0x00, byteOf j.link.val, if recordKindByte record = 1 then 0x00 else 0x01, recordKindByte record,
            recordEpochByte record] ++ recordSequenceBytes record ++
          if recordKindByte record = 1 then
            decipherBytes slot.key (receivedNonce e.role slot.salt (recordSequence record))
              (field record 12 (record.length - 28))
          else [])] }.removeLane lane).settleFirst j.link).serveFreed)

/-- A traffic record dropped at its completion with TAG, EPOCH, LATE or REPLAY: a bad verdict, the occurrence with its
epoch and sequence, and the reply; a tolerated DUPLICATE only counts at the REPLAY counters (R16, R32, R48, R49, R62,
R141). That the verdict, and the LOSS it may report, comes before the drop's own occurrence is the model's reading
(notes/assumptions/11.md). That slots a command leaves free are given out when it ends is the model's reading
(notes/assumptions/10.md). That a record verifies, or does not, is the model's ideal cipher (notes/assumptions/7.md).
-/
def Obligations.TrafficDropped : Prop :=
  ∀ (s : State) lane before j after e tag slot record, s.operating = true → s.InLane lane before j after →
    s.entry j.link = some e → j.work = .decipherTraffic tag slot record →
    let verifies := s.Verifies slot.key (receivedNonce e.role slot.salt (recordSequence record)) record
    let finds (role : SlotRole) (k : KeySlot) : Prop := (s.keySet j.link).slot role = some k ∧
      k.epoch = recordEpoch record ∧ k.key = slot.key ∧
      ∀ role' x, (s.keySet j.link).slot role' = some x → x.epoch = recordEpoch record → role' = role
    let answered (v : State) (reason : Nat) : Host.Outcome State Fault Refusal :=
      .next ((({ v with output := v.output ++ [replyOf tag 0xB1
        ([0x00, byteOf j.link.val, 0x02, byteOf reason, recordKindByte record, recordEpochByte record] ++
          recordSequenceBytes record)] }.removeLane lane).settleFirst j.link).serveFreed)
    let bad (fault : FaultKind) : Host.Outcome State Fault Refusal :=
      answered ((s.badVerdict j.link).occurrence j.link fault (some (recordEpoch record)) (some (recordSequence record)))
        fault.code
    (¬ verifies → exec (.trafficDecipherCompletion lane) s = bad .tag) ∧
    (verifies → (∀ role x, (s.keySet j.link).slot role = some x → x.epoch = recordEpoch record → x.key ≠ slot.key) →
      exec (.trafficDecipherCompletion lane) s = bad .epoch) ∧
    ∀ role k, verifies → finds role k →
      (recordSequence record + 63 < k.window.high → exec (.trafficDecipherCompletion lane) s = bad .late) ∧
      (recordSequence record ≤ k.window.high → k.window.high ≤ recordSequence record + 63 →
        recordSequence record ∈ k.window.seen →
        (e.policy.duplicates = .strict → exec (.trafficDecipherCompletion lane) s = bad .replay) ∧
        (e.policy.duplicates = .tolerant → exec (.trafficDecipherCompletion lane) s =
          answered { s with faults := s.faults.put j.link ((s.faultRecord j.link).countKind .replay) } 13))

/-- A root record at its completion: dropped with TAG, FORM or ROOT-REPLAY, with epoch 0 and its counter; else HELD
with its plaintext, the live in-counter raised and a write requested, the lane free (R13, R14, R16, R63, R82). That
slots a command leaves free are given out when it ends is the model's reading (notes/assumptions/10.md). That a record
verifies, or does not, is the model's ideal cipher (notes/assumptions/7.md). -/
def Obligations.RootRecordJudged : Prop :=
  ∀ (s : State) lane before j after e tag root record, s.operating = true → s.InLane lane before j after →
    s.entry j.link = some e → j.work = .decipherRoot tag root record →
    let nonce := receivedNonce e.role 0#32 (recordSequence record)
    let verifies := s.Verifies root.key nonce record
    let text := decipherBytes root.key nonce (field record 12 (record.length - 28))
    let dropped (fault : FaultKind) : Prop :=
      ∀ u, u = s.occurrence j.link fault (some 0) (some (recordSequence record)) →
        exec (.rootDecipherCompletion lane) s = .next (({ u with
          pool := before ++ after
          output := u.output ++ [replyOf tag 0xB1
            ([0x00, byteOf j.link.val, 0x02, byteOf fault.code, recordKindByte record, recordEpochByte record] ++
              recordSequenceBytes record)] }.settleFirst j.link).serveFreed)
    let held (content : RootContent) : Prop :=
      exec (.rootDecipherCompletion lane) s = .next ({ s with
        pool := before ++ { j with state := .held content } :: after
        roots := s.roots.put root.entry { s.root root.entry with inCounter := recordSequence record }
      }.requestWrite root.entry)
    let fresh := (s.root root.entry).inCounter < recordSequence record
    let offerFits := 1 ≤ (byteAt text 0).toNat ∧ (byteAt text 1).toNat ≤ 1
    let askFits := 1 ≤ (byteAt text 0).toNat ∧ (byteAt text 0).toNat ≤ 6
    (¬ verifies → dropped .tag) ∧
    (verifies → (e.role = .shop ∧ ¬ offerFits ∨ e.role = .hub ∧ ¬ askFits) → dropped .form) ∧
    (verifies → (e.role = .shop ∧ offerFits ∨ e.role = .hub ∧ askFits) → ¬ fresh → dropped .rootReplay) ∧
    (verifies → e.role = .shop → offerFits → fresh → held (.offer
      { epoch := (byteAt text 0).toNat, fresh := byteAt text 1 = 1,
        key := BitVec.ofNat 256 (beNat (field text 2 32)), salt := BitVec.ofNat 32 (beNat (field text 34 4)) })) ∧
    (verifies → e.role = .hub → askFits → fresh →
      ∀ reason : Reason, reason.code = byteAt text 0 → held (.ask reason))

/-- A control job completes: its EMIT with the record built from its copies, the offer or ask timer loaded where the
context awaits that emission, the job removed, and the next job first (R9, R11, R12, R13, R14, R66, R94, R98); the
protection made is kept among those of the part (the model's own record, notes/assumptions/7.md). That slots a command
leaves free are given out when it ends is the model's reading (notes/assumptions/10.md). -/
def Obligations.ControlJobEmits : Prop :=
  ∀ (s : State) lane before j after e, s.operating = true → s.InLane lane before j after → s.entry j.link = some e →
    let emitted (kind : Byte) (key : Key) (salt : Salt) (epoch sequence : Nat) (text : List Byte)
        (c : RenewalContext) : Prop :=
      let header := [kind, byteOf epoch] ++ beBytes 4 e.shopNumber.toNat ++ beBytes 4 sequence ++ beBytes 2 text.length
      let nonce := sentNonce e.role salt sequence
      exec (.controlJobCompletion lane) s = .next (({ s with
        pool := before ++ after
        renewals := s.renewals.put j.link c
        protections := s.protections ++ [protectionOf key nonce header text]
        output := s.output ++ [emitOf j.link kind (protect key nonce header text)] }.settleFirst j.link).serveFreed)
    let c := s.renewal j.link
    let timed (state : RenewalState) : RenewalContext :=
      if c.state = state then { c with stepTimer := .running e.policy.offerTicks } else c
    (∀ slot n, j.work = .beat slot n → emitted 0x02 slot.key slot.salt slot.epoch n [] c) ∧
    (∀ slot n, j.work = .proof slot n → emitted 0x03 slot.key slot.salt slot.epoch n [] c) ∧
    (∀ root text n, j.work = .offer root text (.taken n) →
      emitted 0x04 root.key 0#32 0 n ([byteOf text.epoch, if text.fresh then 1 else 0] ++ beBytes 32 text.key.toNat ++
        beBytes 4 text.salt.toNat) (timed .offered)) ∧
    ∀ root reason n, j.work = .ask root reason (.taken n) → emitted 0x05 root.key 0#32 0 n [reason.code] (timed .asked)

/-! ## Faults and notices (chapter 8) -/

/-- An occurrence: both counters of its kind rise; an unset flag is set, with the stamp, the capture if absent and a log
entry or a lost count; and a link that becomes pending has its NOTICE placed or is owed one (R139, R140, R143, R144, R145,
R155). -/
def Obligations.OccurrenceTaken : Prop :=
  ∀ (s : State) l k epoch sequence,
    let r := s.faultRecord l
    let counted (c : FaultCounter) : FaultCounter :=
      if c.source = k then { c with value := min (c.value + 1) 65535 } else c
    let bit := 1#13 <<< k.code
    let capture : Capture := { kind := k, epoch := epoch, sequence := sequence, tick := s.tickCount }
    let flagged : FaultRecord := { r with
      counterA := counted r.counterA, counterB := counted r.counterB, flags := r.flags ||| bit
      stamp := (r.stamp + 1) % 65536, capture := if r.capture = none then some capture else r.capture }
    let entry : LogEntry := { tick := s.tickCount, link := l, kind := k, epoch := epoch, sequence := sequence }
    let set (f : FaultRecord) : State := { s with
      faults := s.faults.put l f
      log := if s.log.length < 32 then s.log ++ [entry] else s.log
      lost := if s.log.length < 32 then s.lost else min (s.lost + 1) 65535 }
    let becomes := s.isPending l = false ∧ s.noticeMode.includes l = true ∧ flagged.flags &&& r.enabled ≠ 0#13 ∧
      r.noticeSent = false
    (r.flags &&& bit ≠ 0#13 → s.occurrence l k epoch sequence =
      { s with faults := s.faults.put l { r with counterA := counted r.counterA, counterB := counted r.counterB } }) ∧
    (r.flags &&& bit = 0#13 → ¬ becomes → s.occurrence l k epoch sequence = set flagged) ∧
    (r.flags &&& bit = 0#13 → becomes → s.unsolicitedInUse < 16 → s.owed = [] →
      s.occurrence l k epoch sequence = { set { flagged with noticeSent := true } with
        output := s.output ++ [noticeOf l (flagged.flags &&& r.enabled) flagged.stamp] }) ∧
    (r.flags &&& bit = 0#13 → becomes → (16 ≤ s.unsolicitedInUse ∨ s.owed ≠ []) →
      ∃ owed, s.occurrence l k epoch sequence = { set flagged with owed := owed } ∧ l ∈ owed ∧
        (∀ m, m ≠ l → (m ∈ owed ↔ m ∈ s.owed)) ∧ (s.owed.Pairwise (· < ·) → owed.Pairwise (· < ·)))

/-- Free unsolicited slots while links are owed. The owed set is served lowest link first, one NOTICE per slot with the
flags and stamp of that moment, until the slots or the links run out (R145). Where control requests are due at the same
moment (a beat at its expiry, an OFFER or ASK of a waiting context, an owed retry, a confirming beat, a retry for an
expired offer or ask timer) they contest the slots: at each, either the lowest owed link or a due control request may come
first, and so with a link's own request beside a withdrawal (R146, R99, R103). Until no slot is free or no link owed
the claims are taken one by one. Which comes first is a free value, and a slot released inside a command may be left to
the claims until its end (the model's readings, notes/assumptions/8.md and 10.md). -/
def Obligations.FreedSlotsServed : Prop :=
  (∀ s : State,
    let n := min s.owed.length (16 - s.unsolicitedInUse)
    s.serveOwed = { s with
      owed := s.owed.drop n, faults := s.serveOwed.faults
      output := s.output ++ (s.owed.take n).map fun l =>
        noticeOf l ((s.faultRecord l).flags &&& (s.faultRecord l).enabled) (s.faultRecord l).stamp } ∧
    ∀ l, s.serveOwed.faultRecord l = { s.faultRecord l with
      noticeSent := if l ∈ s.owed.take n then true else (s.faultRecord l).noticeSent }) ∧
  (∀ s : State, (s.owed = [] ∨ 16 ≤ s.unsolicitedInUse) →
    s.serveFreed = s ∧ s.serveReleased = s ∧ ∀ l request, s.contest l request = request s) ∧
  (∀ s : State, s.Quiet → s.serveFreed = s.serveOwed ∧ s.serveReleased = s.serveOwed) ∧
  (∀ (s : State) l,
    (.beat l ∈ s.dueClaims ↔ ∃ e, s.entry l = some e ∧ e.beatTimer = .expiring) ∧
    (.preparing l ∈ s.dueClaims ↔ (s.renewal l).state = .preparing ∧ (s.renewal l).claimDue = true) ∧
    (.asking l ∈ s.dueClaims ↔ (s.renewal l).state = .asking ∧ (s.renewal l).claimDue = true) ∧
    (.retry l ∈ s.dueClaims ↔ ((s.renewal l).state = .offered ∨ (s.renewal l).state = .asked) ∧
      (s.renewal l).retryOwed = true ∧ (s.renewal l).claimDue = true) ∧
    (.confirm l ∈ s.dueClaims ↔ (s.renewal l).confirmOwed = true ∧ (s.renewal l).confirmDue = true) ∧
    (.offerTimer l ∈ s.dueClaims ↔ (s.renewal l).state = .offered ∧ (s.renewal l).stepTimer = .expiring ∧
      ∃ e, s.entry l = some e ∧ (s.renewal l).triesUsed < e.policy.offerTries) ∧
    (.askTimer l ∈ s.dueClaims ↔ (s.renewal l).state = .asked ∧ (s.renewal l).stepTimer = .expiring ∧
      ∃ e, s.entry l = some e ∧ (s.renewal l).triesUsed < e.policy.offerTries)) ∧
  (∀ (s : State) c, s.operating = true → exec c.command s = .next (s.takeControlClaim c).serveFreed) ∧
  (∀ s : State, State.Serves none s s.serveFreed ∧ (s.serveFreed.owed = [] ∨ 16 ≤ s.serveFreed.unsolicitedInUse)) ∧
  (∀ (s : State) l request, ∃ u, State.Serves (some l) s u ∧
    (s.contest l request = request u ∨ s.contest l request = (request u).serveReleased)) ∧
  (∀ s : State, s.owed ≠ [] → s.unsolicitedInUse < 16 → s.dueClaims ≠ [] →
    let t : State := { s with choices := s.choices + 1 }
    s.serveReleased = t.serveOwed ∨ s.serveReleased = t) ∧
  ∀ (s : State) l rest, s.owed = l :: rest → s.unsolicitedInUse = 15 → s.dueClaims ≠ [] →
    let t : State := { s with choices := s.choices + 1 }
    let n := Config.freeChoice s.choices % (s.dueClaims.length + 1)
    (n = s.dueClaims.length ∧ s.serveFreed = { t with owed := rest }.placeNotice l) ∨
    ∃ c, s.dueClaims[n]? = some c ∧ State.Serves none (t.takeControlClaim c) s.serveFreed

/-- FAULT-CLEAR: CHANGED where the expected stamp differs; else the mask's flags removed, the capture dropped with the
last flag, and a link no longer pending loses its mark and its owed notice. FAULT-ENABLE: the mask replaced; a link that
ceases to be pending loses both, and one that becomes pending is told of before the reply, or is owed its notice (R151,
R153). -/
def Obligations.FaultsClearedAndEnabled : Prop :=
  (∀ (s : State) r rest (l : Link) (mask : BitVec 13) expected, s.Takes r rest → r.kind = 0x41 → s.entry l ≠ none →
    (expected = none ∧ r.body = [byteOf l.val, 0] ++ beBytes 2 mask.toNat ∨
      ∃ n < 65536, expected = some n ∧ r.body = [byteOf l.val, 1] ++ beBytes 2 mask.toNat ++ beBytes 2 n) →
    let x := s.faultRecord l
    let flags := x.flags &&& ~~~mask
    let ceases := s.isPending l = true ∧ ¬ (flags &&& x.enabled ≠ 0#13 ∧ s.noticeMode.includes l = true)
    ((∃ n, expected = some n ∧ n ≠ x.stamp) → exec .faultClear s = .next (s.answered rest (answerOf r
      ([0x1B, byteOf l.val] ++ beBytes 2 x.flags.toNat ++ beBytes 2 x.stamp)))) ∧
    ((∀ n, expected = some n → n = x.stamp) → exec .faultClear s = .next ({ s with
        faults := s.faults.put l { x with
          flags := flags, capture := if flags = 0#13 then none else x.capture
          noticeSent := if ceases then false else x.noticeSent }
        owed := if ceases then s.owed.filter fun m => m ≠ l else s.owed }.answered rest (answerOf r
      ([0x00, byteOf l.val] ++ beBytes 2 flags.toNat ++ beBytes 2 x.stamp))))) ∧
  ∀ (s : State) r rest (l : Link) (mask : BitVec 13), s.Takes r rest → r.kind = 0x42 → s.entry l ≠ none →
    r.body = byteOf l.val :: beBytes 2 mask.toNat →
    let x := s.faultRecord l
    let after := x.flags &&& mask ≠ 0#13 ∧ s.noticeMode.includes l = true
    let reply (pending : Byte) : OutFrame := answerOf r ([0x00, byteOf l.val] ++ beBytes 2 mask.toNat ++ [pending])
    (s.isPending l = true → after → exec .faultEnable s = .next
      ({ s with faults := s.faults.put l { x with enabled := mask } }.answered rest (reply 1))) ∧
    (s.isPending l = false → ¬ after → exec .faultEnable s = .next
      ({ s with faults := s.faults.put l { x with enabled := mask } }.answered rest (reply 0))) ∧
    (s.isPending l = true → ¬ after → exec .faultEnable s = .next
      ({ s with faults := s.faults.put l { x with enabled := mask, noticeSent := false }
                owed := s.owed.filter fun m => m ≠ l }.answered rest (reply 0))) ∧
    (s.isPending l = false → after → x.noticeSent = false → s.unsolicitedInUse < 16 → s.owed = [] →
      exec .faultEnable s = .next { s with
        requests := rest
        faults := s.faults.put l { x with enabled := mask, noticeSent := true }
        output := s.output ++ [noticeOf l (x.flags &&& mask) x.stamp, reply 1] }) ∧
    (s.isPending l = false → after → x.noticeSent = false → (16 ≤ s.unsolicitedInUse ∨ s.owed ≠ []) →
      ∃ owed, exec .faultEnable s = .next
          ({ s with faults := s.faults.put l { x with enabled := mask }, owed := owed }.answered rest (reply 1)) ∧
        l ∈ owed ∧ (∀ m, m ≠ l → (m ∈ owed ↔ m ∈ s.owed)) ∧ (s.owed.Pairwise (· < ·) → owed.Pairwise (· < ·)))

/-- COUNTER-SET on one counter of an attached link: a source given is taken and zeroes the value, zero without a source
keeps the source, neither changes nothing; the reply holds the value before and the source and value after, and the other
counter, the flags and the stamp are unchanged (R154). -/
def Obligations.CounterSetTaken : Prop :=
  ∀ (s : State) r rest (l : Link) (second zero : Bool) (source : Option FaultKind), s.Takes r rest → r.kind = 0x43 →
    s.entry l ≠ none →
    r.body = [byteOf l.val, if second then 1 else 0,
        byteOf ((if source = none then 0 else 1) + (if zero then 2 else 0))] ++
      (match source with | none => [] | some k => [byteOf k.code]) →
    let x := s.faultRecord l
    let before := if second then x.counterB else x.counterA
    let after : FaultCounter := match source with
      | some k => { source := k, value := 0 }
      | none => if zero then { source := before.source, value := 0 } else before
    exec .counterSet s = .next ({ s with
      faults := s.faults.put l { x with
        counterA := if second then x.counterA else after, counterB := if second then after else x.counterB } }.answered
      rest (answerOf r ([0x00, byteOf l.val, if second then 1 else 0] ++ beBytes 2 before.value ++
        [byteOf after.source.code] ++ beBytes 2 after.value)))

/-- NOTICE-MODE: the mode set; excluded links lose their marks and owed notices, newly included pending links have their
NOTICEs placed, lowest first, while slots are free, and the reply follows (R148, R149). -/
def Obligations.NoticeModeSet : Prop :=
  ∀ (s : State) r rest (mode : NoticeMode), s.Takes r rest → r.kind = 0x44 → s.NoticesSound →
    r.body = (match mode with | .all => [0] | .none => [1] | .low => [2] | .high => [3] | .one l => [4, byteOf l.val]) →
    let ceases (l : Link) : Prop := s.isPending l = true ∧ mode.includes l = false
    let joining := (List.finRange 64).filter fun l =>
      !s.isPending l && (s.faultRecord l).flags &&& (s.faultRecord l).enabled != 0#13 && mode.includes l
    let kept := s.owed.filter fun l => mode.includes l
    let free := if kept = [] then 16 - s.unsolicitedInUse else 0
    ∃ t, exec .noticeMode s = .next t ∧
      t = { s with requests := rest, noticeMode := mode, faults := t.faults, owed := t.owed, output := t.output } ∧
      t.output = s.output ++ (joining.take free).map (fun l =>
          noticeOf l ((s.faultRecord l).flags &&& (s.faultRecord l).enabled) (s.faultRecord l).stamp) ++
        [answerOf r (0x00 :: r.body)] ∧
      (∀ l, l ∈ t.owed ↔ l ∈ kept ∨ l ∈ joining.drop free) ∧ t.owed.Pairwise (· < ·) ∧
      ∀ l, t.faultRecord l = { s.faultRecord l with
        noticeSent := if ceases l then false else if l ∈ joining.take free then true else (s.faultRecord l).noticeSent }

/-- LOG-READ: the oldest entries, as many as the count or as the log holds, leave the log and are returned in order
behind their number and the lost count, which becomes 0 (R156). -/
def Obligations.LogReadTaken : Prop :=
  ∀ (s : State) r rest n, s.Takes r rest → r.kind = 0x45 → 1 ≤ n → n ≤ 8 → r.body = [byteOf n] →
    let entries := s.log.take n
    let bytes (x : LogEntry) : List Byte :=
      beBytes 4 x.tick ++ [byteOf x.link.val, byteOf x.kind.code,
        byteOf ((if x.epoch = none then 0 else 1) + (if x.sequence = none then 0 else 2))] ++
        (match x.epoch with | none => [] | some v => beBytes 1 v) ++
        (match x.sequence with | none => [] | some v => beBytes 4 v)
    entries.length = min n s.log.length ∧
    exec .logRead s = .next ({ s with log := s.log.drop n, lost := 0 }.answered rest
      (answerOf r ([0x00, byteOf entries.length] ++ beBytes 2 s.lost ++ entries.flatMap bytes)))

/-! ## Time -/

/-- A tick: the tick count rises and wraps, every running timer comes down by one and is due where it would reach 0, and
the requests of waiting contexts become due (R26, R93, R97, R104, R106, R129, R132, R167). That an expiry and a request are
only made due, to be taken by their own commands, and that a timer stays due until then, over a further tick too, are the
model's choices (notes/assumptions/2.md). -/
def Obligations.TickCounts : Prop :=
  Timer.tick .stopped = .stopped ∧ Timer.tick .expiring = .expiring ∧ Timer.tick (.running 1) = .expiring ∧
  (∀ n, 2 ≤ n → Timer.tick (.running n) = .running (n - 1)) ∧
  ∀ s : State, s.operating = true → ∃ t, exec .tick s = .next t ∧
    t = { s with tickCount := if s.tickCount = 4294967295 then 0 else t.tickCount
                 keys := t.keys, renewals := t.renewals, links := t.links } ∧
    (s.tickCount < 4294967295 → t.tickCount = s.tickCount + 1) ∧
    ∀ l, t.keySet l = { s.keySet l with grace := (s.keySet l).grace.tick } ∧
      (s.entry l = none → t.entry l = none) ∧
      (∀ e, s.entry l = some e → t.entry l = some { e with
        beatTimer := e.beatTimer.tick, silenceTimer := e.silenceTimer.tick }) ∧
      ∃ due, t.renewal l = { s.renewal l with
          stepTimer := (s.renewal l).stepTimer.tick, renewalTimer := (s.renewal l).renewalTimer.tick
          claimDue := due, confirmDue := (s.renewal l).confirmOwed } ∧
        (due = true ↔ (s.renewal l).state = .preparing ∨ (s.renewal l).state = .asking ∨
          ((s.renewal l).state = .offered ∨ (s.renewal l).state = .asked) ∧ (s.renewal l).retryOwed = true)

/-- The grace timer expires: PREVIOUS erased. The beat timer expires: a BEAT requested, or BEAT-SKIP for want of room,
and the timer reloaded. The offer timer of a hub in OFFERED and the ask timer of a shop in ASKED expire: a retry where
tries remain, else the round fails. The rest timer expires: a new round where the link holds no CURRENT or the due mark
is set, else IDLE (R26, R95, R98, R102, R133). Slots released at these events go to the owed set and what contests them
(R145, R146). That slots a command leaves free are given out when it ends is the model's reading
(notes/assumptions/10.md). -/
def Obligations.GraceBeatAndRoundTimersExpire : Prop :=
  (∀ (s : State) l, s.operating = true → (s.keySet l).grace = .expiring →
    exec (.graceExpiry l) s = .next { s with
      keys := s.keys.put l { s.keySet l with previous := none, grace := .stopped } }) ∧
  (∀ (s : State) l e, s.operating = true → s.entry l = some e → e.beatTimer = .expiring →
    let load := if e.policy.beatTicks = 0 then Timer.stopped else Timer.running e.policy.beatTicks
    let reload (t : State) : State :=
      { t with links := t.links.put l ((t.entry l).map fun x => { x with beatTimer := load }) }
    (s.controlAnswer l = .accepted → exec (.beatExpiry l) s = .next (s.requestTraffic l .beat).serveFreed) ∧
    (s.controlAnswer l = .noRoom → exec (.beatExpiry l) s = .next (reload (s.occurrence l .beatSkip none none)).serveFreed) ∧
    (s.controlAnswer l = .spent → exec (.beatExpiry l) s = .next (reload (s.requestTraffic l .beat)).serveFreed)) ∧
  (∀ (s : State) l e, s.operating = true → s.entry l = some e → (s.renewal l).stepTimer = .expiring →
    let u : State := { s with renewals := s.renewals.put l { s.renewal l with stepTimer := .stopped } }
    let remain := (s.renewal l).triesUsed < e.policy.offerTries
    ((s.renewal l).state = .offered →
      (remain → exec (.offerTimerExpiry l) s = .next (u.retryOffer l).serveFreed) ∧
      (¬ remain → exec (.offerTimerExpiry l) s = .next (u.failRound l).serveFreed)) ∧
    ((s.renewal l).state = .asked →
      (remain → exec (.askTimerExpiry l) s = .next (u.retryAsk l).serveFreed) ∧
      (¬ remain → exec (.askTimerExpiry l) s = .next (u.failRound l).serveFreed))) ∧
  ∀ (s : State) l e, s.operating = true → s.entry l = some e → (s.renewal l).state = .resting →
    (s.renewal l).stepTimer = .expiring →
    let c := s.renewal l
    let begun (state : RenewalState) : State := { s with renewals := s.renewals.put l { c with
      state := state, triesUsed := 0, retryOwed := false, stepTimer := .stopped, claimDue := false } }
    ((s.keySet l).current ≠ none ∧ c.dueMark = false → exec (.restTimerExpiry l) s = .next
      { s with renewals := s.renewals.put l { c with state := .idle, stepTimer := .stopped } }.serveFreed) ∧
    ((s.keySet l).current = none ∨ c.dueMark = true →
      (e.role = .hub → exec (.restTimerExpiry l) s = .next ((begun .preparing).requestOffer l).serveFreed) ∧
      (e.role = .shop → exec (.restTimerExpiry l) s = .next ((begun .asking).requestAsk l).serveFreed))

/-- The renewal timer expires: DUE, or OVERDUE under the due mark, with CURRENT's epoch, the reload, and a DUE trigger.
The silence timer expires: SILENT, the reload, and from UP or FAILING HUNT with a LOSS trigger under rekey_on_loss
(R107, R130, R131). That slots a command leaves free are given out when it ends is the model's reading
(notes/assumptions/10.md). -/
def Obligations.RenewalAndSilenceExpire : Prop :=
  (∀ (s : State) l e k u, s.operating = true → s.entry l = some e → (s.renewal l).renewalTimer = .expiring →
    (s.keySet l).current = some k →
    u = s.occurrence l (if (s.renewal l).dueMark then .overdue else .due) (some k.epoch) none →
    exec (.renewalTimerExpiry l) s = .next (({ u with renewals := s.renewals.put l { s.renewal l with
      dueMark := true, renewalTimer := .running e.policy.renewTicks } }.trigger l .due).serveFreed)) ∧
  ∀ (s : State) l e, s.operating = true → s.entry l = some e → e.silenceTimer = .expiring →
    let heard (x : LinkEntry) : State :=
      { s with links := s.links.put l (some { x with silenceTimer := .running e.policy.silenceTicks }) }.occurrence l
        .silent none none
    let lost := heard { e with state := .hunt, goodCount := 0, badCount := 0 }
    (e.state = .hunt → exec (.silenceExpiry l) s = .next (heard e).serveFreed) ∧
    (e.state = .up ∨ e.state = .failing → exec (.silenceExpiry l) s =
      .next (if e.policy.rekeyOnLoss then lost.trigger l .loss else lost).serveFreed)

/-- The requests of a tick: a hub in PREPARING requests its OFFER, a shop in ASKING its ASK, a context with the
retry-owed mark its retry, and a hub with the confirm-owed mark its BEAT, which is a BEAT-SKIP for want of room (R93,
R95, R97, R98, R104, R180). That slots a command leaves free are given out when it ends is the model's reading
(notes/assumptions/10.md). -/
def Obligations.TickRequestsMade : Prop :=
  (∀ (s : State) l, s.operating = true → (s.renewal l).claimDue = true →
    let u : State := { s with renewals := s.renewals.put l { s.renewal l with claimDue := false } }
    ((s.renewal l).state = .preparing → exec (.preparingOfferRequest l) s = .next (u.requestOffer l).serveFreed) ∧
    ((s.renewal l).state = .asking → exec (.askingAskRequest l) s = .next (u.requestAsk l).serveFreed) ∧
    ((s.renewal l).retryOwed = true →
      ((s.renewal l).state = .offered → exec (.retryOwedRequest l) s = .next (u.retryOffer l).serveFreed) ∧
      ((s.renewal l).state = .asked → exec (.retryOwedRequest l) s = .next (u.retryAsk l).serveFreed))) ∧
  ∀ (s : State) l, s.operating = true → (s.renewal l).confirmDue = true → (s.renewal l).confirmOwed = true →
    let u : State := { s with renewals := s.renewals.put l { s.renewal l with confirmDue := false } }
    (u.controlAnswer l = .noRoom → exec (.confirmBeatRequest l) s = .next (u.occurrence l .beatSkip none none).serveFreed) ∧
    (u.controlAnswer l ≠ .noRoom → exec (.confirmBeatRequest l) s = .next (u.requestTraffic l .beat).serveFreed)

/-- The arithmetic of wear and of the window: blocks, the gap below the wear limit, the judgement of a sequence and the
window after its acceptance, which keeps the window sound and never judges the same sequence accepted again (R36, R37,
R46, R47, R50). -/
def Obligations.WearAndWindow : Prop :=
  (∀ n q, 16 * q < n → n ≤ 16 * (q + 1) → blocks n = q + 3) ∧ blocks 0 = 2 ∧
  (∀ w e, 4096 ≤ w → 1 ≤ e → e ≤ 7 → 512 ≤ softThreshold w e ∧ softThreshold w e + w / 8 ≤ w) ∧
  ∀ (w : Window) s, w.Sound → 1 ≤ s →
    (w.judge s = .accepted ↔ w.high < s ∨ w.high ≤ s + 63 ∧ s ∉ w.seen) ∧
    (w.judge s = .late ↔ s + 63 < w.high) ∧
    (w.judge s = .accepted →
      (w.accept s).Sound ∧ (w.accept s).high = max w.high s ∧
      (∀ x, x ∈ (w.accept s).seen ↔ x = s ∨ x ∈ w.seen ∧ max w.high s ≤ x + 63) ∧
      ∀ w' : Window, w'.Sound → w'.high ≥ (w.accept s).high →
        (∀ x, x ∈ (w.accept s).seen → x ≤ w'.high → w'.high ≤ x + 63 → x ∈ w'.seen) → w'.judge s ≠ .accepted)

/-! ## Invariants that every step keeps -/

/-- No store passes its size and no count its top (R52, R155, R160, R161, R162, R167). -/
def Obligations.StepKeepsSizes : Prop :=
  ∀ s t : State, s.WithinSizes → step s = .next t → t.WithinSizes

/-- Policies, key slots, held OFFERs and counts of tries stay in their ranges: a slot never protects more than its wear
limit (R17, R38, R39, R46, R88, R115). -/
def Obligations.StepKeepsSlots : Prop :=
  ∀ s t : State, s.SlotsSound → step s = .next t → t.SlotsSound

/-- Entries are bound exactly to attached links, and a CLOSED link holds nothing (R74, R114, R138). -/
def Obligations.StepKeepsBindings : Prop :=
  ∀ s t : State, s.BindingsSound → step s = .next t → t.BindingsSound

/-- A capture is present exactly under flags, a pending link is noticed or owed and never both, and no unsolicited slot
is free while a notice is owed (R137, R143, R145, R147). -/
def Obligations.StepKeepsNotices : Prop :=
  ∀ s t : State, s.BindingsSound → s.NoticesSound → step s = .next t → t.NoticesSound

/-- A link is in HUNT, UP or FAILING exactly while it holds a CURRENT, and its timers run exactly then (R26, R106, R113,
R114, R129). -/
def Obligations.StepKeepsSupervision : Prop :=
  ∀ s t : State, s.BindingsSound → s.SupervisionSound → step s = .next t → t.SupervisionSound

/-- Renewal contexts stay in states of their role, a NEXT is held exactly in OFFERED or PROVED, and beat timers run
exactly with an outbound slot and beat_ticks not 0 (R88, R132). -/
def Obligations.StepKeepsRenewal : Prop :=
  ∀ s t : State, s.BindingsSound → s.SlotsSound → s.RenewalSound → step s = .next t → t.RenewalSound

/-- The epochs of a link's slots stay distinct, and at a hub consecutive (R19, R20). -/
def Obligations.StepKeepsEpochs : Prop :=
  ∀ s t : State, s.BindingsSound → s.SlotsSound → s.RenewalSound → s.EpochsSound → step s = .next t → t.EpochsSound

/-- The root counters stay ordered and only the first job of a list has asked of them (R56, R72, R79, R84). -/
def Obligations.StepKeepsRoots : Prop :=
  ∀ s t : State, s.BindingsSound → s.RootsSound → step s = .next t → t.RootsSound

/-- No stored ceiling and no out-counter of an entry ever falls, and a counter taken at a grant lies above every counter
taken before it (R80). -/
def Obligations.CountersNeverFall : Prop :=
  ∀ s t : State, s.RootsSound → step s = .next t → ∀ e,
    (s.root e).stored.ceiling ≤ (t.root e).stored.ceiling ∧ (s.root e).outCounter ≤ (t.root e).outCounter ∧
    ∀ j ∈ t.pool, ∀ n, j.work.claim = some (e, .taken n) →
      j ∈ s.pool ∨ (s.root e).outCounter < n ∧ n ≤ (t.root e).outCounter

/-- Every command but a frame arrival, a read's end and the restarts keeps the number of request-owned slots in use:
the replies in the output, the queued requests, the host jobs and the root replies that wait for a write, taken
together (R68, R161, R162). -/
def Obligations.RequestsKeptInAccount : Prop :=
  ∀ (s t : State) c rest, s.pending = c :: rest → (∀ bytes, c ≠ .frameArrival bytes) → (∀ n, c ≠ .readEnd n) →
    c ≠ .restart → c ≠ .resetAssert → c ≠ .resetRelease → c ≠ .powerOn → c ≠ .powerLoss →
    step s = .next t → t.requestOwnedInUse = s.requestOwnedInUse
end

