-- ==== Sys2Proof/Laws/State.lean ====
section
/-! SUPPORT. What each named update of the state leaves as it was, one lemma per field, and what it writes. -/

namespace Sys2Proof.Machine

open Sys2Proof

variable (s : State)

/-! ## setKeys -/

@[simp] theorem State.setKeys_pending (l : Link) (k : KeySet) : (s.setKeys l k).pending = s.pending := rfl
@[simp] theorem State.setKeys_powered (l : Link) (k : KeySet) : (s.setKeys l k).powered = s.powered := rfl
@[simp] theorem State.setKeys_resetLow (l : Link) (k : KeySet) : (s.setKeys l k).resetLow = s.resetLow := rfl
@[simp] theorem State.setKeys_starting (l : Link) (k : KeySet) : (s.setKeys l k).starting = s.starting := rfl
@[simp] theorem State.setKeys_requests (l : Link) (k : KeySet) : (s.setKeys l k).requests = s.requests := rfl
@[simp] theorem State.setKeys_output (l : Link) (k : KeySet) : (s.setKeys l k).output = s.output := rfl
@[simp] theorem State.setKeys_reading (l : Link) (k : KeySet) : (s.setKeys l k).reading = s.reading := rfl
@[simp] theorem State.setKeys_frameErrors (l : Link) (k : KeySet) : (s.setKeys l k).frameErrors = s.frameErrors := rfl
@[simp] theorem State.setKeys_overruns (l : Link) (k : KeySet) : (s.setKeys l k).overruns = s.overruns := rfl
@[simp] theorem State.setKeys_fresh (l : Link) (k : KeySet) : (s.setKeys l k).fresh = s.fresh := rfl
@[simp] theorem State.setKeys_cause (l : Link) (k : KeySet) : (s.setKeys l k).cause = s.cause := rfl
@[simp] theorem State.setKeys_pool (l : Link) (k : KeySet) : (s.setKeys l k).pool = s.pool := rfl
@[simp] theorem State.setKeys_pointer (l : Link) (k : KeySet) : (s.setKeys l k).pointer = s.pointer := rfl
@[simp] theorem State.setKeys_roots (l : Link) (k : KeySet) : (s.setKeys l k).roots = s.roots := rfl
@[simp] theorem State.setKeys_nvQueue (l : Link) (k : KeySet) : (s.setKeys l k).nvQueue = s.nvQueue := rfl
@[simp] theorem State.setKeys_nvWrite (l : Link) (k : KeySet) : (s.setKeys l k).nvWrite = s.nvWrite := rfl
@[simp] theorem State.setKeys_rootReplies (l : Link) (k : KeySet) : (s.setKeys l k).rootReplies = s.rootReplies := rfl
@[simp] theorem State.setKeys_identity (l : Link) (k : KeySet) : (s.setKeys l k).identity = s.identity := rfl
@[simp] theorem State.setKeys_renewals (l : Link) (k : KeySet) : (s.setKeys l k).renewals = s.renewals := rfl
@[simp] theorem State.setKeys_links (l : Link) (k : KeySet) : (s.setKeys l k).links = s.links := rfl
@[simp] theorem State.setKeys_faults (l : Link) (k : KeySet) : (s.setKeys l k).faults = s.faults := rfl
@[simp] theorem State.setKeys_noticeMode (l : Link) (k : KeySet) : (s.setKeys l k).noticeMode = s.noticeMode := rfl
@[simp] theorem State.setKeys_owed (l : Link) (k : KeySet) : (s.setKeys l k).owed = s.owed := rfl
@[simp] theorem State.setKeys_log (l : Link) (k : KeySet) : (s.setKeys l k).log = s.log := rfl
@[simp] theorem State.setKeys_lost (l : Link) (k : KeySet) : (s.setKeys l k).lost = s.lost := rfl
@[simp] theorem State.setKeys_tickCount (l : Link) (k : KeySet) : (s.setKeys l k).tickCount = s.tickCount := rfl
@[simp] theorem State.setKeys_draws (l : Link) (k : KeySet) : (s.setKeys l k).draws = s.draws := rfl
@[simp] theorem State.setKeys_choices (l : Link) (k : KeySet) : (s.setKeys l k).choices = s.choices := rfl
@[simp] theorem State.setKeys_protections (l : Link) (k : KeySet) : (s.setKeys l k).protections = s.protections := rfl
@[simp] theorem State.setKeys_renewal (l : Link) (k : KeySet) (m : Link) : (s.setKeys l k).renewal m = s.renewal m := rfl
@[simp] theorem State.setKeys_entry (l : Link) (k : KeySet) (m : Link) : (s.setKeys l k).entry m = s.entry m := rfl
@[simp] theorem State.setKeys_faultRecord (l : Link) (k : KeySet) (m : Link) : (s.setKeys l k).faultRecord m = s.faultRecord m := rfl
@[simp] theorem State.setKeys_root (l : Link) (k : KeySet) (n : EntryNo) : (s.setKeys l k).root n = s.root n := rfl

/-! ## setRenewal -/

@[simp] theorem State.setRenewal_pending (l : Link) (c : RenewalContext) : (s.setRenewal l c).pending = s.pending := rfl
@[simp] theorem State.setRenewal_powered (l : Link) (c : RenewalContext) : (s.setRenewal l c).powered = s.powered := rfl
@[simp] theorem State.setRenewal_resetLow (l : Link) (c : RenewalContext) : (s.setRenewal l c).resetLow = s.resetLow := rfl
@[simp] theorem State.setRenewal_starting (l : Link) (c : RenewalContext) : (s.setRenewal l c).starting = s.starting := rfl
@[simp] theorem State.setRenewal_requests (l : Link) (c : RenewalContext) : (s.setRenewal l c).requests = s.requests := rfl
@[simp] theorem State.setRenewal_output (l : Link) (c : RenewalContext) : (s.setRenewal l c).output = s.output := rfl
@[simp] theorem State.setRenewal_reading (l : Link) (c : RenewalContext) : (s.setRenewal l c).reading = s.reading := rfl
@[simp] theorem State.setRenewal_frameErrors (l : Link) (c : RenewalContext) : (s.setRenewal l c).frameErrors = s.frameErrors := rfl
@[simp] theorem State.setRenewal_overruns (l : Link) (c : RenewalContext) : (s.setRenewal l c).overruns = s.overruns := rfl
@[simp] theorem State.setRenewal_fresh (l : Link) (c : RenewalContext) : (s.setRenewal l c).fresh = s.fresh := rfl
@[simp] theorem State.setRenewal_cause (l : Link) (c : RenewalContext) : (s.setRenewal l c).cause = s.cause := rfl
@[simp] theorem State.setRenewal_pool (l : Link) (c : RenewalContext) : (s.setRenewal l c).pool = s.pool := rfl
@[simp] theorem State.setRenewal_pointer (l : Link) (c : RenewalContext) : (s.setRenewal l c).pointer = s.pointer := rfl
@[simp] theorem State.setRenewal_keys (l : Link) (c : RenewalContext) : (s.setRenewal l c).keys = s.keys := rfl
@[simp] theorem State.setRenewal_roots (l : Link) (c : RenewalContext) : (s.setRenewal l c).roots = s.roots := rfl
@[simp] theorem State.setRenewal_nvQueue (l : Link) (c : RenewalContext) : (s.setRenewal l c).nvQueue = s.nvQueue := rfl
@[simp] theorem State.setRenewal_nvWrite (l : Link) (c : RenewalContext) : (s.setRenewal l c).nvWrite = s.nvWrite := rfl
@[simp] theorem State.setRenewal_rootReplies (l : Link) (c : RenewalContext) : (s.setRenewal l c).rootReplies = s.rootReplies := rfl
@[simp] theorem State.setRenewal_identity (l : Link) (c : RenewalContext) : (s.setRenewal l c).identity = s.identity := rfl
@[simp] theorem State.setRenewal_links (l : Link) (c : RenewalContext) : (s.setRenewal l c).links = s.links := rfl
@[simp] theorem State.setRenewal_faults (l : Link) (c : RenewalContext) : (s.setRenewal l c).faults = s.faults := rfl
@[simp] theorem State.setRenewal_noticeMode (l : Link) (c : RenewalContext) : (s.setRenewal l c).noticeMode = s.noticeMode := rfl
@[simp] theorem State.setRenewal_owed (l : Link) (c : RenewalContext) : (s.setRenewal l c).owed = s.owed := rfl
@[simp] theorem State.setRenewal_log (l : Link) (c : RenewalContext) : (s.setRenewal l c).log = s.log := rfl
@[simp] theorem State.setRenewal_lost (l : Link) (c : RenewalContext) : (s.setRenewal l c).lost = s.lost := rfl
@[simp] theorem State.setRenewal_tickCount (l : Link) (c : RenewalContext) : (s.setRenewal l c).tickCount = s.tickCount := rfl
@[simp] theorem State.setRenewal_draws (l : Link) (c : RenewalContext) : (s.setRenewal l c).draws = s.draws := rfl
@[simp] theorem State.setRenewal_choices (l : Link) (c : RenewalContext) : (s.setRenewal l c).choices = s.choices := rfl
@[simp] theorem State.setRenewal_protections (l : Link) (c : RenewalContext) : (s.setRenewal l c).protections = s.protections := rfl
@[simp] theorem State.setRenewal_keySet (l : Link) (c : RenewalContext) (m : Link) : (s.setRenewal l c).keySet m = s.keySet m := rfl
@[simp] theorem State.setRenewal_entry (l : Link) (c : RenewalContext) (m : Link) : (s.setRenewal l c).entry m = s.entry m := rfl
@[simp] theorem State.setRenewal_faultRecord (l : Link) (c : RenewalContext) (m : Link) : (s.setRenewal l c).faultRecord m = s.faultRecord m := rfl
@[simp] theorem State.setRenewal_root (l : Link) (c : RenewalContext) (n : EntryNo) : (s.setRenewal l c).root n = s.root n := rfl

/-! ## setEntry -/

@[simp] theorem State.setEntry_pending (l : Link) (e : Option LinkEntry) : (s.setEntry l e).pending = s.pending := rfl
@[simp] theorem State.setEntry_powered (l : Link) (e : Option LinkEntry) : (s.setEntry l e).powered = s.powered := rfl
@[simp] theorem State.setEntry_resetLow (l : Link) (e : Option LinkEntry) : (s.setEntry l e).resetLow = s.resetLow := rfl
@[simp] theorem State.setEntry_starting (l : Link) (e : Option LinkEntry) : (s.setEntry l e).starting = s.starting := rfl
@[simp] theorem State.setEntry_requests (l : Link) (e : Option LinkEntry) : (s.setEntry l e).requests = s.requests := rfl
@[simp] theorem State.setEntry_output (l : Link) (e : Option LinkEntry) : (s.setEntry l e).output = s.output := rfl
@[simp] theorem State.setEntry_reading (l : Link) (e : Option LinkEntry) : (s.setEntry l e).reading = s.reading := rfl
@[simp] theorem State.setEntry_frameErrors (l : Link) (e : Option LinkEntry) : (s.setEntry l e).frameErrors = s.frameErrors := rfl
@[simp] theorem State.setEntry_overruns (l : Link) (e : Option LinkEntry) : (s.setEntry l e).overruns = s.overruns := rfl
@[simp] theorem State.setEntry_fresh (l : Link) (e : Option LinkEntry) : (s.setEntry l e).fresh = s.fresh := rfl
@[simp] theorem State.setEntry_cause (l : Link) (e : Option LinkEntry) : (s.setEntry l e).cause = s.cause := rfl
@[simp] theorem State.setEntry_pool (l : Link) (e : Option LinkEntry) : (s.setEntry l e).pool = s.pool := rfl
@[simp] theorem State.setEntry_pointer (l : Link) (e : Option LinkEntry) : (s.setEntry l e).pointer = s.pointer := rfl
@[simp] theorem State.setEntry_keys (l : Link) (e : Option LinkEntry) : (s.setEntry l e).keys = s.keys := rfl
@[simp] theorem State.setEntry_roots (l : Link) (e : Option LinkEntry) : (s.setEntry l e).roots = s.roots := rfl
@[simp] theorem State.setEntry_nvQueue (l : Link) (e : Option LinkEntry) : (s.setEntry l e).nvQueue = s.nvQueue := rfl
@[simp] theorem State.setEntry_nvWrite (l : Link) (e : Option LinkEntry) : (s.setEntry l e).nvWrite = s.nvWrite := rfl
@[simp] theorem State.setEntry_rootReplies (l : Link) (e : Option LinkEntry) : (s.setEntry l e).rootReplies = s.rootReplies := rfl
@[simp] theorem State.setEntry_identity (l : Link) (e : Option LinkEntry) : (s.setEntry l e).identity = s.identity := rfl
@[simp] theorem State.setEntry_renewals (l : Link) (e : Option LinkEntry) : (s.setEntry l e).renewals = s.renewals := rfl
@[simp] theorem State.setEntry_faults (l : Link) (e : Option LinkEntry) : (s.setEntry l e).faults = s.faults := rfl
@[simp] theorem State.setEntry_noticeMode (l : Link) (e : Option LinkEntry) : (s.setEntry l e).noticeMode = s.noticeMode := rfl
@[simp] theorem State.setEntry_owed (l : Link) (e : Option LinkEntry) : (s.setEntry l e).owed = s.owed := rfl
@[simp] theorem State.setEntry_log (l : Link) (e : Option LinkEntry) : (s.setEntry l e).log = s.log := rfl
@[simp] theorem State.setEntry_lost (l : Link) (e : Option LinkEntry) : (s.setEntry l e).lost = s.lost := rfl
@[simp] theorem State.setEntry_tickCount (l : Link) (e : Option LinkEntry) : (s.setEntry l e).tickCount = s.tickCount := rfl
@[simp] theorem State.setEntry_draws (l : Link) (e : Option LinkEntry) : (s.setEntry l e).draws = s.draws := rfl
@[simp] theorem State.setEntry_choices (l : Link) (e : Option LinkEntry) : (s.setEntry l e).choices = s.choices := rfl
@[simp] theorem State.setEntry_protections (l : Link) (e : Option LinkEntry) : (s.setEntry l e).protections = s.protections := rfl
@[simp] theorem State.setEntry_keySet (l : Link) (e : Option LinkEntry) (m : Link) : (s.setEntry l e).keySet m = s.keySet m := rfl
@[simp] theorem State.setEntry_renewal (l : Link) (e : Option LinkEntry) (m : Link) : (s.setEntry l e).renewal m = s.renewal m := rfl
@[simp] theorem State.setEntry_faultRecord (l : Link) (e : Option LinkEntry) (m : Link) : (s.setEntry l e).faultRecord m = s.faultRecord m := rfl
@[simp] theorem State.setEntry_root (l : Link) (e : Option LinkEntry) (n : EntryNo) : (s.setEntry l e).root n = s.root n := rfl

/-! ## setFaults -/

@[simp] theorem State.setFaults_pending (l : Link) (r : FaultRecord) : (s.setFaults l r).pending = s.pending := rfl
@[simp] theorem State.setFaults_powered (l : Link) (r : FaultRecord) : (s.setFaults l r).powered = s.powered := rfl
@[simp] theorem State.setFaults_resetLow (l : Link) (r : FaultRecord) : (s.setFaults l r).resetLow = s.resetLow := rfl
@[simp] theorem State.setFaults_starting (l : Link) (r : FaultRecord) : (s.setFaults l r).starting = s.starting := rfl
@[simp] theorem State.setFaults_requests (l : Link) (r : FaultRecord) : (s.setFaults l r).requests = s.requests := rfl
@[simp] theorem State.setFaults_output (l : Link) (r : FaultRecord) : (s.setFaults l r).output = s.output := rfl
@[simp] theorem State.setFaults_reading (l : Link) (r : FaultRecord) : (s.setFaults l r).reading = s.reading := rfl
@[simp] theorem State.setFaults_frameErrors (l : Link) (r : FaultRecord) : (s.setFaults l r).frameErrors = s.frameErrors := rfl
@[simp] theorem State.setFaults_overruns (l : Link) (r : FaultRecord) : (s.setFaults l r).overruns = s.overruns := rfl
@[simp] theorem State.setFaults_fresh (l : Link) (r : FaultRecord) : (s.setFaults l r).fresh = s.fresh := rfl
@[simp] theorem State.setFaults_cause (l : Link) (r : FaultRecord) : (s.setFaults l r).cause = s.cause := rfl
@[simp] theorem State.setFaults_pool (l : Link) (r : FaultRecord) : (s.setFaults l r).pool = s.pool := rfl
@[simp] theorem State.setFaults_pointer (l : Link) (r : FaultRecord) : (s.setFaults l r).pointer = s.pointer := rfl
@[simp] theorem State.setFaults_keys (l : Link) (r : FaultRecord) : (s.setFaults l r).keys = s.keys := rfl
@[simp] theorem State.setFaults_roots (l : Link) (r : FaultRecord) : (s.setFaults l r).roots = s.roots := rfl
@[simp] theorem State.setFaults_nvQueue (l : Link) (r : FaultRecord) : (s.setFaults l r).nvQueue = s.nvQueue := rfl
@[simp] theorem State.setFaults_nvWrite (l : Link) (r : FaultRecord) : (s.setFaults l r).nvWrite = s.nvWrite := rfl
@[simp] theorem State.setFaults_rootReplies (l : Link) (r : FaultRecord) : (s.setFaults l r).rootReplies = s.rootReplies := rfl
@[simp] theorem State.setFaults_identity (l : Link) (r : FaultRecord) : (s.setFaults l r).identity = s.identity := rfl
@[simp] theorem State.setFaults_renewals (l : Link) (r : FaultRecord) : (s.setFaults l r).renewals = s.renewals := rfl
@[simp] theorem State.setFaults_links (l : Link) (r : FaultRecord) : (s.setFaults l r).links = s.links := rfl
@[simp] theorem State.setFaults_noticeMode (l : Link) (r : FaultRecord) : (s.setFaults l r).noticeMode = s.noticeMode := rfl
@[simp] theorem State.setFaults_owed (l : Link) (r : FaultRecord) : (s.setFaults l r).owed = s.owed := rfl
@[simp] theorem State.setFaults_log (l : Link) (r : FaultRecord) : (s.setFaults l r).log = s.log := rfl
@[simp] theorem State.setFaults_lost (l : Link) (r : FaultRecord) : (s.setFaults l r).lost = s.lost := rfl
@[simp] theorem State.setFaults_tickCount (l : Link) (r : FaultRecord) : (s.setFaults l r).tickCount = s.tickCount := rfl
@[simp] theorem State.setFaults_draws (l : Link) (r : FaultRecord) : (s.setFaults l r).draws = s.draws := rfl
@[simp] theorem State.setFaults_choices (l : Link) (r : FaultRecord) : (s.setFaults l r).choices = s.choices := rfl
@[simp] theorem State.setFaults_protections (l : Link) (r : FaultRecord) : (s.setFaults l r).protections = s.protections := rfl
@[simp] theorem State.setFaults_keySet (l : Link) (r : FaultRecord) (m : Link) : (s.setFaults l r).keySet m = s.keySet m := rfl
@[simp] theorem State.setFaults_renewal (l : Link) (r : FaultRecord) (m : Link) : (s.setFaults l r).renewal m = s.renewal m := rfl
@[simp] theorem State.setFaults_entry (l : Link) (r : FaultRecord) (m : Link) : (s.setFaults l r).entry m = s.entry m := rfl
@[simp] theorem State.setFaults_root (l : Link) (r : FaultRecord) (n : EntryNo) : (s.setFaults l r).root n = s.root n := rfl

/-! ## setRoot -/

@[simp] theorem State.setRoot_pending (i : EntryNo) (r : RootEntry) : (s.setRoot i r).pending = s.pending := rfl
@[simp] theorem State.setRoot_powered (i : EntryNo) (r : RootEntry) : (s.setRoot i r).powered = s.powered := rfl
@[simp] theorem State.setRoot_resetLow (i : EntryNo) (r : RootEntry) : (s.setRoot i r).resetLow = s.resetLow := rfl
@[simp] theorem State.setRoot_starting (i : EntryNo) (r : RootEntry) : (s.setRoot i r).starting = s.starting := rfl
@[simp] theorem State.setRoot_requests (i : EntryNo) (r : RootEntry) : (s.setRoot i r).requests = s.requests := rfl
@[simp] theorem State.setRoot_output (i : EntryNo) (r : RootEntry) : (s.setRoot i r).output = s.output := rfl
@[simp] theorem State.setRoot_reading (i : EntryNo) (r : RootEntry) : (s.setRoot i r).reading = s.reading := rfl
@[simp] theorem State.setRoot_frameErrors (i : EntryNo) (r : RootEntry) : (s.setRoot i r).frameErrors = s.frameErrors := rfl
@[simp] theorem State.setRoot_overruns (i : EntryNo) (r : RootEntry) : (s.setRoot i r).overruns = s.overruns := rfl
@[simp] theorem State.setRoot_fresh (i : EntryNo) (r : RootEntry) : (s.setRoot i r).fresh = s.fresh := rfl
@[simp] theorem State.setRoot_cause (i : EntryNo) (r : RootEntry) : (s.setRoot i r).cause = s.cause := rfl
@[simp] theorem State.setRoot_pool (i : EntryNo) (r : RootEntry) : (s.setRoot i r).pool = s.pool := rfl
@[simp] theorem State.setRoot_pointer (i : EntryNo) (r : RootEntry) : (s.setRoot i r).pointer = s.pointer := rfl
@[simp] theorem State.setRoot_keys (i : EntryNo) (r : RootEntry) : (s.setRoot i r).keys = s.keys := rfl
@[simp] theorem State.setRoot_nvQueue (i : EntryNo) (r : RootEntry) : (s.setRoot i r).nvQueue = s.nvQueue := rfl
@[simp] theorem State.setRoot_nvWrite (i : EntryNo) (r : RootEntry) : (s.setRoot i r).nvWrite = s.nvWrite := rfl
@[simp] theorem State.setRoot_rootReplies (i : EntryNo) (r : RootEntry) : (s.setRoot i r).rootReplies = s.rootReplies := rfl
@[simp] theorem State.setRoot_identity (i : EntryNo) (r : RootEntry) : (s.setRoot i r).identity = s.identity := rfl
@[simp] theorem State.setRoot_renewals (i : EntryNo) (r : RootEntry) : (s.setRoot i r).renewals = s.renewals := rfl
@[simp] theorem State.setRoot_links (i : EntryNo) (r : RootEntry) : (s.setRoot i r).links = s.links := rfl
@[simp] theorem State.setRoot_faults (i : EntryNo) (r : RootEntry) : (s.setRoot i r).faults = s.faults := rfl
@[simp] theorem State.setRoot_noticeMode (i : EntryNo) (r : RootEntry) : (s.setRoot i r).noticeMode = s.noticeMode := rfl
@[simp] theorem State.setRoot_owed (i : EntryNo) (r : RootEntry) : (s.setRoot i r).owed = s.owed := rfl
@[simp] theorem State.setRoot_log (i : EntryNo) (r : RootEntry) : (s.setRoot i r).log = s.log := rfl
@[simp] theorem State.setRoot_lost (i : EntryNo) (r : RootEntry) : (s.setRoot i r).lost = s.lost := rfl
@[simp] theorem State.setRoot_tickCount (i : EntryNo) (r : RootEntry) : (s.setRoot i r).tickCount = s.tickCount := rfl
@[simp] theorem State.setRoot_draws (i : EntryNo) (r : RootEntry) : (s.setRoot i r).draws = s.draws := rfl
@[simp] theorem State.setRoot_choices (i : EntryNo) (r : RootEntry) : (s.setRoot i r).choices = s.choices := rfl
@[simp] theorem State.setRoot_protections (i : EntryNo) (r : RootEntry) : (s.setRoot i r).protections = s.protections := rfl
@[simp] theorem State.setRoot_keySet (i : EntryNo) (r : RootEntry) (m : Link) : (s.setRoot i r).keySet m = s.keySet m := rfl
@[simp] theorem State.setRoot_renewal (i : EntryNo) (r : RootEntry) (m : Link) : (s.setRoot i r).renewal m = s.renewal m := rfl
@[simp] theorem State.setRoot_entry (i : EntryNo) (r : RootEntry) (m : Link) : (s.setRoot i r).entry m = s.entry m := rfl
@[simp] theorem State.setRoot_faultRecord (i : EntryNo) (r : RootEntry) (m : Link) : (s.setRoot i r).faultRecord m = s.faultRecord m := rfl

/-! ## onRenewal -/

@[simp] theorem State.onRenewal_pending (l : Link) (f : RenewalContext → RenewalContext) : (s.onRenewal l f).pending = s.pending := rfl
@[simp] theorem State.onRenewal_powered (l : Link) (f : RenewalContext → RenewalContext) : (s.onRenewal l f).powered = s.powered := rfl
@[simp] theorem State.onRenewal_resetLow (l : Link) (f : RenewalContext → RenewalContext) : (s.onRenewal l f).resetLow = s.resetLow := rfl
@[simp] theorem State.onRenewal_starting (l : Link) (f : RenewalContext → RenewalContext) : (s.onRenewal l f).starting = s.starting := rfl
@[simp] theorem State.onRenewal_requests (l : Link) (f : RenewalContext → RenewalContext) : (s.onRenewal l f).requests = s.requests := rfl
@[simp] theorem State.onRenewal_output (l : Link) (f : RenewalContext → RenewalContext) : (s.onRenewal l f).output = s.output := rfl
@[simp] theorem State.onRenewal_reading (l : Link) (f : RenewalContext → RenewalContext) : (s.onRenewal l f).reading = s.reading := rfl
@[simp] theorem State.onRenewal_frameErrors (l : Link) (f : RenewalContext → RenewalContext) : (s.onRenewal l f).frameErrors = s.frameErrors := rfl
@[simp] theorem State.onRenewal_overruns (l : Link) (f : RenewalContext → RenewalContext) : (s.onRenewal l f).overruns = s.overruns := rfl
@[simp] theorem State.onRenewal_fresh (l : Link) (f : RenewalContext → RenewalContext) : (s.onRenewal l f).fresh = s.fresh := rfl
@[simp] theorem State.onRenewal_cause (l : Link) (f : RenewalContext → RenewalContext) : (s.onRenewal l f).cause = s.cause := rfl
@[simp] theorem State.onRenewal_pool (l : Link) (f : RenewalContext → RenewalContext) : (s.onRenewal l f).pool = s.pool := rfl
@[simp] theorem State.onRenewal_pointer (l : Link) (f : RenewalContext → RenewalContext) : (s.onRenewal l f).pointer = s.pointer := rfl
@[simp] theorem State.onRenewal_keys (l : Link) (f : RenewalContext → RenewalContext) : (s.onRenewal l f).keys = s.keys := rfl
@[simp] theorem State.onRenewal_roots (l : Link) (f : RenewalContext → RenewalContext) : (s.onRenewal l f).roots = s.roots := rfl
@[simp] theorem State.onRenewal_nvQueue (l : Link) (f : RenewalContext → RenewalContext) : (s.onRenewal l f).nvQueue = s.nvQueue := rfl
@[simp] theorem State.onRenewal_nvWrite (l : Link) (f : RenewalContext → RenewalContext) : (s.onRenewal l f).nvWrite = s.nvWrite := rfl
@[simp] theorem State.onRenewal_rootReplies (l : Link) (f : RenewalContext → RenewalContext) : (s.onRenewal l f).rootReplies = s.rootReplies := rfl
@[simp] theorem State.onRenewal_identity (l : Link) (f : RenewalContext → RenewalContext) : (s.onRenewal l f).identity = s.identity := rfl
@[simp] theorem State.onRenewal_links (l : Link) (f : RenewalContext → RenewalContext) : (s.onRenewal l f).links = s.links := rfl
@[simp] theorem State.onRenewal_faults (l : Link) (f : RenewalContext → RenewalContext) : (s.onRenewal l f).faults = s.faults := rfl
@[simp] theorem State.onRenewal_noticeMode (l : Link) (f : RenewalContext → RenewalContext) : (s.onRenewal l f).noticeMode = s.noticeMode := rfl
@[simp] theorem State.onRenewal_owed (l : Link) (f : RenewalContext → RenewalContext) : (s.onRenewal l f).owed = s.owed := rfl
@[simp] theorem State.onRenewal_log (l : Link) (f : RenewalContext → RenewalContext) : (s.onRenewal l f).log = s.log := rfl
@[simp] theorem State.onRenewal_lost (l : Link) (f : RenewalContext → RenewalContext) : (s.onRenewal l f).lost = s.lost := rfl
@[simp] theorem State.onRenewal_tickCount (l : Link) (f : RenewalContext → RenewalContext) : (s.onRenewal l f).tickCount = s.tickCount := rfl
@[simp] theorem State.onRenewal_draws (l : Link) (f : RenewalContext → RenewalContext) : (s.onRenewal l f).draws = s.draws := rfl
@[simp] theorem State.onRenewal_choices (l : Link) (f : RenewalContext → RenewalContext) : (s.onRenewal l f).choices = s.choices := rfl
@[simp] theorem State.onRenewal_protections (l : Link) (f : RenewalContext → RenewalContext) : (s.onRenewal l f).protections = s.protections := rfl
@[simp] theorem State.onRenewal_keySet (l : Link) (f : RenewalContext → RenewalContext) (m : Link) : (s.onRenewal l f).keySet m = s.keySet m := rfl
@[simp] theorem State.onRenewal_entry (l : Link) (f : RenewalContext → RenewalContext) (m : Link) : (s.onRenewal l f).entry m = s.entry m := rfl
@[simp] theorem State.onRenewal_faultRecord (l : Link) (f : RenewalContext → RenewalContext) (m : Link) : (s.onRenewal l f).faultRecord m = s.faultRecord m := rfl
@[simp] theorem State.onRenewal_root (l : Link) (f : RenewalContext → RenewalContext) (n : EntryNo) : (s.onRenewal l f).root n = s.root n := rfl

/-! ## onEntry -/

@[simp] theorem State.onEntry_pending (l : Link) (f : LinkEntry → LinkEntry) : (s.onEntry l f).pending = s.pending := rfl
@[simp] theorem State.onEntry_powered (l : Link) (f : LinkEntry → LinkEntry) : (s.onEntry l f).powered = s.powered := rfl
@[simp] theorem State.onEntry_resetLow (l : Link) (f : LinkEntry → LinkEntry) : (s.onEntry l f).resetLow = s.resetLow := rfl
@[simp] theorem State.onEntry_starting (l : Link) (f : LinkEntry → LinkEntry) : (s.onEntry l f).starting = s.starting := rfl
@[simp] theorem State.onEntry_requests (l : Link) (f : LinkEntry → LinkEntry) : (s.onEntry l f).requests = s.requests := rfl
@[simp] theorem State.onEntry_output (l : Link) (f : LinkEntry → LinkEntry) : (s.onEntry l f).output = s.output := rfl
@[simp] theorem State.onEntry_reading (l : Link) (f : LinkEntry → LinkEntry) : (s.onEntry l f).reading = s.reading := rfl
@[simp] theorem State.onEntry_frameErrors (l : Link) (f : LinkEntry → LinkEntry) : (s.onEntry l f).frameErrors = s.frameErrors := rfl
@[simp] theorem State.onEntry_overruns (l : Link) (f : LinkEntry → LinkEntry) : (s.onEntry l f).overruns = s.overruns := rfl
@[simp] theorem State.onEntry_fresh (l : Link) (f : LinkEntry → LinkEntry) : (s.onEntry l f).fresh = s.fresh := rfl
@[simp] theorem State.onEntry_cause (l : Link) (f : LinkEntry → LinkEntry) : (s.onEntry l f).cause = s.cause := rfl
@[simp] theorem State.onEntry_pool (l : Link) (f : LinkEntry → LinkEntry) : (s.onEntry l f).pool = s.pool := rfl
@[simp] theorem State.onEntry_pointer (l : Link) (f : LinkEntry → LinkEntry) : (s.onEntry l f).pointer = s.pointer := rfl
@[simp] theorem State.onEntry_keys (l : Link) (f : LinkEntry → LinkEntry) : (s.onEntry l f).keys = s.keys := rfl
@[simp] theorem State.onEntry_roots (l : Link) (f : LinkEntry → LinkEntry) : (s.onEntry l f).roots = s.roots := rfl
@[simp] theorem State.onEntry_nvQueue (l : Link) (f : LinkEntry → LinkEntry) : (s.onEntry l f).nvQueue = s.nvQueue := rfl
@[simp] theorem State.onEntry_nvWrite (l : Link) (f : LinkEntry → LinkEntry) : (s.onEntry l f).nvWrite = s.nvWrite := rfl
@[simp] theorem State.onEntry_rootReplies (l : Link) (f : LinkEntry → LinkEntry) : (s.onEntry l f).rootReplies = s.rootReplies := rfl
@[simp] theorem State.onEntry_identity (l : Link) (f : LinkEntry → LinkEntry) : (s.onEntry l f).identity = s.identity := rfl
@[simp] theorem State.onEntry_renewals (l : Link) (f : LinkEntry → LinkEntry) : (s.onEntry l f).renewals = s.renewals := rfl
@[simp] theorem State.onEntry_faults (l : Link) (f : LinkEntry → LinkEntry) : (s.onEntry l f).faults = s.faults := rfl
@[simp] theorem State.onEntry_noticeMode (l : Link) (f : LinkEntry → LinkEntry) : (s.onEntry l f).noticeMode = s.noticeMode := rfl
@[simp] theorem State.onEntry_owed (l : Link) (f : LinkEntry → LinkEntry) : (s.onEntry l f).owed = s.owed := rfl
@[simp] theorem State.onEntry_log (l : Link) (f : LinkEntry → LinkEntry) : (s.onEntry l f).log = s.log := rfl
@[simp] theorem State.onEntry_lost (l : Link) (f : LinkEntry → LinkEntry) : (s.onEntry l f).lost = s.lost := rfl
@[simp] theorem State.onEntry_tickCount (l : Link) (f : LinkEntry → LinkEntry) : (s.onEntry l f).tickCount = s.tickCount := rfl
@[simp] theorem State.onEntry_draws (l : Link) (f : LinkEntry → LinkEntry) : (s.onEntry l f).draws = s.draws := rfl
@[simp] theorem State.onEntry_choices (l : Link) (f : LinkEntry → LinkEntry) : (s.onEntry l f).choices = s.choices := rfl
@[simp] theorem State.onEntry_protections (l : Link) (f : LinkEntry → LinkEntry) : (s.onEntry l f).protections = s.protections := rfl
@[simp] theorem State.onEntry_keySet (l : Link) (f : LinkEntry → LinkEntry) (m : Link) : (s.onEntry l f).keySet m = s.keySet m := rfl
@[simp] theorem State.onEntry_renewal (l : Link) (f : LinkEntry → LinkEntry) (m : Link) : (s.onEntry l f).renewal m = s.renewal m := rfl
@[simp] theorem State.onEntry_faultRecord (l : Link) (f : LinkEntry → LinkEntry) (m : Link) : (s.onEntry l f).faultRecord m = s.faultRecord m := rfl
@[simp] theorem State.onEntry_root (l : Link) (f : LinkEntry → LinkEntry) (n : EntryNo) : (s.onEntry l f).root n = s.root n := rfl

/-! ## onFaults -/

@[simp] theorem State.onFaults_pending (l : Link) (f : FaultRecord → FaultRecord) : (s.onFaults l f).pending = s.pending := rfl
@[simp] theorem State.onFaults_powered (l : Link) (f : FaultRecord → FaultRecord) : (s.onFaults l f).powered = s.powered := rfl
@[simp] theorem State.onFaults_resetLow (l : Link) (f : FaultRecord → FaultRecord) : (s.onFaults l f).resetLow = s.resetLow := rfl
@[simp] theorem State.onFaults_starting (l : Link) (f : FaultRecord → FaultRecord) : (s.onFaults l f).starting = s.starting := rfl
@[simp] theorem State.onFaults_requests (l : Link) (f : FaultRecord → FaultRecord) : (s.onFaults l f).requests = s.requests := rfl
@[simp] theorem State.onFaults_output (l : Link) (f : FaultRecord → FaultRecord) : (s.onFaults l f).output = s.output := rfl
@[simp] theorem State.onFaults_reading (l : Link) (f : FaultRecord → FaultRecord) : (s.onFaults l f).reading = s.reading := rfl
@[simp] theorem State.onFaults_frameErrors (l : Link) (f : FaultRecord → FaultRecord) : (s.onFaults l f).frameErrors = s.frameErrors := rfl
@[simp] theorem State.onFaults_overruns (l : Link) (f : FaultRecord → FaultRecord) : (s.onFaults l f).overruns = s.overruns := rfl
@[simp] theorem State.onFaults_fresh (l : Link) (f : FaultRecord → FaultRecord) : (s.onFaults l f).fresh = s.fresh := rfl
@[simp] theorem State.onFaults_cause (l : Link) (f : FaultRecord → FaultRecord) : (s.onFaults l f).cause = s.cause := rfl
@[simp] theorem State.onFaults_pool (l : Link) (f : FaultRecord → FaultRecord) : (s.onFaults l f).pool = s.pool := rfl
@[simp] theorem State.onFaults_pointer (l : Link) (f : FaultRecord → FaultRecord) : (s.onFaults l f).pointer = s.pointer := rfl
@[simp] theorem State.onFaults_keys (l : Link) (f : FaultRecord → FaultRecord) : (s.onFaults l f).keys = s.keys := rfl
@[simp] theorem State.onFaults_roots (l : Link) (f : FaultRecord → FaultRecord) : (s.onFaults l f).roots = s.roots := rfl
@[simp] theorem State.onFaults_nvQueue (l : Link) (f : FaultRecord → FaultRecord) : (s.onFaults l f).nvQueue = s.nvQueue := rfl
@[simp] theorem State.onFaults_nvWrite (l : Link) (f : FaultRecord → FaultRecord) : (s.onFaults l f).nvWrite = s.nvWrite := rfl
@[simp] theorem State.onFaults_rootReplies (l : Link) (f : FaultRecord → FaultRecord) : (s.onFaults l f).rootReplies = s.rootReplies := rfl
@[simp] theorem State.onFaults_identity (l : Link) (f : FaultRecord → FaultRecord) : (s.onFaults l f).identity = s.identity := rfl
@[simp] theorem State.onFaults_renewals (l : Link) (f : FaultRecord → FaultRecord) : (s.onFaults l f).renewals = s.renewals := rfl
@[simp] theorem State.onFaults_links (l : Link) (f : FaultRecord → FaultRecord) : (s.onFaults l f).links = s.links := rfl
@[simp] theorem State.onFaults_noticeMode (l : Link) (f : FaultRecord → FaultRecord) : (s.onFaults l f).noticeMode = s.noticeMode := rfl
@[simp] theorem State.onFaults_owed (l : Link) (f : FaultRecord → FaultRecord) : (s.onFaults l f).owed = s.owed := rfl
@[simp] theorem State.onFaults_log (l : Link) (f : FaultRecord → FaultRecord) : (s.onFaults l f).log = s.log := rfl
@[simp] theorem State.onFaults_lost (l : Link) (f : FaultRecord → FaultRecord) : (s.onFaults l f).lost = s.lost := rfl
@[simp] theorem State.onFaults_tickCount (l : Link) (f : FaultRecord → FaultRecord) : (s.onFaults l f).tickCount = s.tickCount := rfl
@[simp] theorem State.onFaults_draws (l : Link) (f : FaultRecord → FaultRecord) : (s.onFaults l f).draws = s.draws := rfl
@[simp] theorem State.onFaults_choices (l : Link) (f : FaultRecord → FaultRecord) : (s.onFaults l f).choices = s.choices := rfl
@[simp] theorem State.onFaults_protections (l : Link) (f : FaultRecord → FaultRecord) : (s.onFaults l f).protections = s.protections := rfl
@[simp] theorem State.onFaults_keySet (l : Link) (f : FaultRecord → FaultRecord) (m : Link) : (s.onFaults l f).keySet m = s.keySet m := rfl
@[simp] theorem State.onFaults_renewal (l : Link) (f : FaultRecord → FaultRecord) (m : Link) : (s.onFaults l f).renewal m = s.renewal m := rfl
@[simp] theorem State.onFaults_entry (l : Link) (f : FaultRecord → FaultRecord) (m : Link) : (s.onFaults l f).entry m = s.entry m := rfl
@[simp] theorem State.onFaults_root (l : Link) (f : FaultRecord → FaultRecord) (n : EntryNo) : (s.onFaults l f).root n = s.root n := rfl

/-! ## chosen -/

@[simp] theorem State.chosen_pending : (s.chosen).pending = s.pending := rfl
@[simp] theorem State.chosen_powered : (s.chosen).powered = s.powered := rfl
@[simp] theorem State.chosen_resetLow : (s.chosen).resetLow = s.resetLow := rfl
@[simp] theorem State.chosen_starting : (s.chosen).starting = s.starting := rfl
@[simp] theorem State.chosen_requests : (s.chosen).requests = s.requests := rfl
@[simp] theorem State.chosen_output : (s.chosen).output = s.output := rfl
@[simp] theorem State.chosen_reading : (s.chosen).reading = s.reading := rfl
@[simp] theorem State.chosen_frameErrors : (s.chosen).frameErrors = s.frameErrors := rfl
@[simp] theorem State.chosen_overruns : (s.chosen).overruns = s.overruns := rfl
@[simp] theorem State.chosen_fresh : (s.chosen).fresh = s.fresh := rfl
@[simp] theorem State.chosen_cause : (s.chosen).cause = s.cause := rfl
@[simp] theorem State.chosen_pool : (s.chosen).pool = s.pool := rfl
@[simp] theorem State.chosen_pointer : (s.chosen).pointer = s.pointer := rfl
@[simp] theorem State.chosen_keys : (s.chosen).keys = s.keys := rfl
@[simp] theorem State.chosen_roots : (s.chosen).roots = s.roots := rfl
@[simp] theorem State.chosen_nvQueue : (s.chosen).nvQueue = s.nvQueue := rfl
@[simp] theorem State.chosen_nvWrite : (s.chosen).nvWrite = s.nvWrite := rfl
@[simp] theorem State.chosen_rootReplies : (s.chosen).rootReplies = s.rootReplies := rfl
@[simp] theorem State.chosen_identity : (s.chosen).identity = s.identity := rfl
@[simp] theorem State.chosen_renewals : (s.chosen).renewals = s.renewals := rfl
@[simp] theorem State.chosen_links : (s.chosen).links = s.links := rfl
@[simp] theorem State.chosen_faults : (s.chosen).faults = s.faults := rfl
@[simp] theorem State.chosen_noticeMode : (s.chosen).noticeMode = s.noticeMode := rfl
@[simp] theorem State.chosen_owed : (s.chosen).owed = s.owed := rfl
@[simp] theorem State.chosen_log : (s.chosen).log = s.log := rfl
@[simp] theorem State.chosen_lost : (s.chosen).lost = s.lost := rfl
@[simp] theorem State.chosen_tickCount : (s.chosen).tickCount = s.tickCount := rfl
@[simp] theorem State.chosen_draws : (s.chosen).draws = s.draws := rfl
@[simp] theorem State.chosen_protections : (s.chosen).protections = s.protections := rfl
@[simp] theorem State.chosen_keySet (m : Link) : (s.chosen).keySet m = s.keySet m := rfl
@[simp] theorem State.chosen_renewal (m : Link) : (s.chosen).renewal m = s.renewal m := rfl
@[simp] theorem State.chosen_entry (m : Link) : (s.chosen).entry m = s.entry m := rfl
@[simp] theorem State.chosen_faultRecord (m : Link) : (s.chosen).faultRecord m = s.faultRecord m := rfl
@[simp] theorem State.chosen_root (n : EntryNo) : (s.chosen).root n = s.root n := rfl

/-! ## place -/

@[simp] theorem State.place_pending (f : OutFrame) : (s.place f).pending = s.pending := rfl
@[simp] theorem State.place_powered (f : OutFrame) : (s.place f).powered = s.powered := rfl
@[simp] theorem State.place_resetLow (f : OutFrame) : (s.place f).resetLow = s.resetLow := rfl
@[simp] theorem State.place_starting (f : OutFrame) : (s.place f).starting = s.starting := rfl
@[simp] theorem State.place_requests (f : OutFrame) : (s.place f).requests = s.requests := rfl
@[simp] theorem State.place_reading (f : OutFrame) : (s.place f).reading = s.reading := rfl
@[simp] theorem State.place_frameErrors (f : OutFrame) : (s.place f).frameErrors = s.frameErrors := rfl
@[simp] theorem State.place_overruns (f : OutFrame) : (s.place f).overruns = s.overruns := rfl
@[simp] theorem State.place_fresh (f : OutFrame) : (s.place f).fresh = s.fresh := rfl
@[simp] theorem State.place_cause (f : OutFrame) : (s.place f).cause = s.cause := rfl
@[simp] theorem State.place_pool (f : OutFrame) : (s.place f).pool = s.pool := rfl
@[simp] theorem State.place_pointer (f : OutFrame) : (s.place f).pointer = s.pointer := rfl
@[simp] theorem State.place_keys (f : OutFrame) : (s.place f).keys = s.keys := rfl
@[simp] theorem State.place_roots (f : OutFrame) : (s.place f).roots = s.roots := rfl
@[simp] theorem State.place_nvQueue (f : OutFrame) : (s.place f).nvQueue = s.nvQueue := rfl
@[simp] theorem State.place_nvWrite (f : OutFrame) : (s.place f).nvWrite = s.nvWrite := rfl
@[simp] theorem State.place_rootReplies (f : OutFrame) : (s.place f).rootReplies = s.rootReplies := rfl
@[simp] theorem State.place_identity (f : OutFrame) : (s.place f).identity = s.identity := rfl
@[simp] theorem State.place_renewals (f : OutFrame) : (s.place f).renewals = s.renewals := rfl
@[simp] theorem State.place_links (f : OutFrame) : (s.place f).links = s.links := rfl
@[simp] theorem State.place_faults (f : OutFrame) : (s.place f).faults = s.faults := rfl
@[simp] theorem State.place_noticeMode (f : OutFrame) : (s.place f).noticeMode = s.noticeMode := rfl
@[simp] theorem State.place_owed (f : OutFrame) : (s.place f).owed = s.owed := rfl
@[simp] theorem State.place_log (f : OutFrame) : (s.place f).log = s.log := rfl
@[simp] theorem State.place_lost (f : OutFrame) : (s.place f).lost = s.lost := rfl
@[simp] theorem State.place_tickCount (f : OutFrame) : (s.place f).tickCount = s.tickCount := rfl
@[simp] theorem State.place_draws (f : OutFrame) : (s.place f).draws = s.draws := rfl
@[simp] theorem State.place_choices (f : OutFrame) : (s.place f).choices = s.choices := rfl
@[simp] theorem State.place_protections (f : OutFrame) : (s.place f).protections = s.protections := rfl
@[simp] theorem State.place_keySet (f : OutFrame) (m : Link) : (s.place f).keySet m = s.keySet m := rfl
@[simp] theorem State.place_renewal (f : OutFrame) (m : Link) : (s.place f).renewal m = s.renewal m := rfl
@[simp] theorem State.place_entry (f : OutFrame) (m : Link) : (s.place f).entry m = s.entry m := rfl
@[simp] theorem State.place_faultRecord (f : OutFrame) (m : Link) : (s.place f).faultRecord m = s.faultRecord m := rfl
@[simp] theorem State.place_root (f : OutFrame) (n : EntryNo) : (s.place f).root n = s.root n := rfl

/-! ## append -/

@[simp] theorem State.append_pending (j : Job) : (s.append j).pending = s.pending := rfl
@[simp] theorem State.append_powered (j : Job) : (s.append j).powered = s.powered := rfl
@[simp] theorem State.append_resetLow (j : Job) : (s.append j).resetLow = s.resetLow := rfl
@[simp] theorem State.append_starting (j : Job) : (s.append j).starting = s.starting := rfl
@[simp] theorem State.append_requests (j : Job) : (s.append j).requests = s.requests := rfl
@[simp] theorem State.append_output (j : Job) : (s.append j).output = s.output := rfl
@[simp] theorem State.append_reading (j : Job) : (s.append j).reading = s.reading := rfl
@[simp] theorem State.append_frameErrors (j : Job) : (s.append j).frameErrors = s.frameErrors := rfl
@[simp] theorem State.append_overruns (j : Job) : (s.append j).overruns = s.overruns := rfl
@[simp] theorem State.append_fresh (j : Job) : (s.append j).fresh = s.fresh := rfl
@[simp] theorem State.append_cause (j : Job) : (s.append j).cause = s.cause := rfl
@[simp] theorem State.append_pointer (j : Job) : (s.append j).pointer = s.pointer := rfl
@[simp] theorem State.append_keys (j : Job) : (s.append j).keys = s.keys := rfl
@[simp] theorem State.append_roots (j : Job) : (s.append j).roots = s.roots := rfl
@[simp] theorem State.append_nvQueue (j : Job) : (s.append j).nvQueue = s.nvQueue := rfl
@[simp] theorem State.append_nvWrite (j : Job) : (s.append j).nvWrite = s.nvWrite := rfl
@[simp] theorem State.append_rootReplies (j : Job) : (s.append j).rootReplies = s.rootReplies := rfl
@[simp] theorem State.append_identity (j : Job) : (s.append j).identity = s.identity := rfl
@[simp] theorem State.append_renewals (j : Job) : (s.append j).renewals = s.renewals := rfl
@[simp] theorem State.append_links (j : Job) : (s.append j).links = s.links := rfl
@[simp] theorem State.append_faults (j : Job) : (s.append j).faults = s.faults := rfl
@[simp] theorem State.append_noticeMode (j : Job) : (s.append j).noticeMode = s.noticeMode := rfl
@[simp] theorem State.append_owed (j : Job) : (s.append j).owed = s.owed := rfl
@[simp] theorem State.append_log (j : Job) : (s.append j).log = s.log := rfl
@[simp] theorem State.append_lost (j : Job) : (s.append j).lost = s.lost := rfl
@[simp] theorem State.append_tickCount (j : Job) : (s.append j).tickCount = s.tickCount := rfl
@[simp] theorem State.append_draws (j : Job) : (s.append j).draws = s.draws := rfl
@[simp] theorem State.append_choices (j : Job) : (s.append j).choices = s.choices := rfl
@[simp] theorem State.append_protections (j : Job) : (s.append j).protections = s.protections := rfl
@[simp] theorem State.append_keySet (j : Job) (m : Link) : (s.append j).keySet m = s.keySet m := rfl
@[simp] theorem State.append_renewal (j : Job) (m : Link) : (s.append j).renewal m = s.renewal m := rfl
@[simp] theorem State.append_entry (j : Job) (m : Link) : (s.append j).entry m = s.entry m := rfl
@[simp] theorem State.append_faultRecord (j : Job) (m : Link) : (s.append j).faultRecord m = s.faultRecord m := rfl
@[simp] theorem State.append_root (j : Job) (n : EntryNo) : (s.append j).root n = s.root n := rfl

/-! ## onFirst -/

@[simp] theorem State.onFirst_pending (l : Link) (f : Job → Job) : (s.onFirst l f).pending = s.pending := rfl
@[simp] theorem State.onFirst_powered (l : Link) (f : Job → Job) : (s.onFirst l f).powered = s.powered := rfl
@[simp] theorem State.onFirst_resetLow (l : Link) (f : Job → Job) : (s.onFirst l f).resetLow = s.resetLow := rfl
@[simp] theorem State.onFirst_starting (l : Link) (f : Job → Job) : (s.onFirst l f).starting = s.starting := rfl
@[simp] theorem State.onFirst_requests (l : Link) (f : Job → Job) : (s.onFirst l f).requests = s.requests := rfl
@[simp] theorem State.onFirst_output (l : Link) (f : Job → Job) : (s.onFirst l f).output = s.output := rfl
@[simp] theorem State.onFirst_reading (l : Link) (f : Job → Job) : (s.onFirst l f).reading = s.reading := rfl
@[simp] theorem State.onFirst_frameErrors (l : Link) (f : Job → Job) : (s.onFirst l f).frameErrors = s.frameErrors := rfl
@[simp] theorem State.onFirst_overruns (l : Link) (f : Job → Job) : (s.onFirst l f).overruns = s.overruns := rfl
@[simp] theorem State.onFirst_fresh (l : Link) (f : Job → Job) : (s.onFirst l f).fresh = s.fresh := rfl
@[simp] theorem State.onFirst_cause (l : Link) (f : Job → Job) : (s.onFirst l f).cause = s.cause := rfl
@[simp] theorem State.onFirst_pointer (l : Link) (f : Job → Job) : (s.onFirst l f).pointer = s.pointer := rfl
@[simp] theorem State.onFirst_keys (l : Link) (f : Job → Job) : (s.onFirst l f).keys = s.keys := rfl
@[simp] theorem State.onFirst_roots (l : Link) (f : Job → Job) : (s.onFirst l f).roots = s.roots := rfl
@[simp] theorem State.onFirst_nvQueue (l : Link) (f : Job → Job) : (s.onFirst l f).nvQueue = s.nvQueue := rfl
@[simp] theorem State.onFirst_nvWrite (l : Link) (f : Job → Job) : (s.onFirst l f).nvWrite = s.nvWrite := rfl
@[simp] theorem State.onFirst_rootReplies (l : Link) (f : Job → Job) : (s.onFirst l f).rootReplies = s.rootReplies := rfl
@[simp] theorem State.onFirst_identity (l : Link) (f : Job → Job) : (s.onFirst l f).identity = s.identity := rfl
@[simp] theorem State.onFirst_renewals (l : Link) (f : Job → Job) : (s.onFirst l f).renewals = s.renewals := rfl
@[simp] theorem State.onFirst_links (l : Link) (f : Job → Job) : (s.onFirst l f).links = s.links := rfl
@[simp] theorem State.onFirst_faults (l : Link) (f : Job → Job) : (s.onFirst l f).faults = s.faults := rfl
@[simp] theorem State.onFirst_noticeMode (l : Link) (f : Job → Job) : (s.onFirst l f).noticeMode = s.noticeMode := rfl
@[simp] theorem State.onFirst_owed (l : Link) (f : Job → Job) : (s.onFirst l f).owed = s.owed := rfl
@[simp] theorem State.onFirst_log (l : Link) (f : Job → Job) : (s.onFirst l f).log = s.log := rfl
@[simp] theorem State.onFirst_lost (l : Link) (f : Job → Job) : (s.onFirst l f).lost = s.lost := rfl
@[simp] theorem State.onFirst_tickCount (l : Link) (f : Job → Job) : (s.onFirst l f).tickCount = s.tickCount := rfl
@[simp] theorem State.onFirst_draws (l : Link) (f : Job → Job) : (s.onFirst l f).draws = s.draws := rfl
@[simp] theorem State.onFirst_choices (l : Link) (f : Job → Job) : (s.onFirst l f).choices = s.choices := rfl
@[simp] theorem State.onFirst_protections (l : Link) (f : Job → Job) : (s.onFirst l f).protections = s.protections := rfl
@[simp] theorem State.onFirst_keySet (l : Link) (f : Job → Job) (m : Link) : (s.onFirst l f).keySet m = s.keySet m := rfl
@[simp] theorem State.onFirst_renewal (l : Link) (f : Job → Job) (m : Link) : (s.onFirst l f).renewal m = s.renewal m := rfl
@[simp] theorem State.onFirst_entry (l : Link) (f : Job → Job) (m : Link) : (s.onFirst l f).entry m = s.entry m := rfl
@[simp] theorem State.onFirst_faultRecord (l : Link) (f : Job → Job) (m : Link) : (s.onFirst l f).faultRecord m = s.faultRecord m := rfl
@[simp] theorem State.onFirst_root (l : Link) (f : Job → Job) (n : EntryNo) : (s.onFirst l f).root n = s.root n := rfl

/-! ## removeFirst -/

@[simp] theorem State.removeFirst_pending (l : Link) : (s.removeFirst l).pending = s.pending := rfl
@[simp] theorem State.removeFirst_powered (l : Link) : (s.removeFirst l).powered = s.powered := rfl
@[simp] theorem State.removeFirst_resetLow (l : Link) : (s.removeFirst l).resetLow = s.resetLow := rfl
@[simp] theorem State.removeFirst_starting (l : Link) : (s.removeFirst l).starting = s.starting := rfl
@[simp] theorem State.removeFirst_requests (l : Link) : (s.removeFirst l).requests = s.requests := rfl
@[simp] theorem State.removeFirst_output (l : Link) : (s.removeFirst l).output = s.output := rfl
@[simp] theorem State.removeFirst_reading (l : Link) : (s.removeFirst l).reading = s.reading := rfl
@[simp] theorem State.removeFirst_frameErrors (l : Link) : (s.removeFirst l).frameErrors = s.frameErrors := rfl
@[simp] theorem State.removeFirst_overruns (l : Link) : (s.removeFirst l).overruns = s.overruns := rfl
@[simp] theorem State.removeFirst_fresh (l : Link) : (s.removeFirst l).fresh = s.fresh := rfl
@[simp] theorem State.removeFirst_cause (l : Link) : (s.removeFirst l).cause = s.cause := rfl
@[simp] theorem State.removeFirst_pointer (l : Link) : (s.removeFirst l).pointer = s.pointer := rfl
@[simp] theorem State.removeFirst_keys (l : Link) : (s.removeFirst l).keys = s.keys := rfl
@[simp] theorem State.removeFirst_roots (l : Link) : (s.removeFirst l).roots = s.roots := rfl
@[simp] theorem State.removeFirst_nvQueue (l : Link) : (s.removeFirst l).nvQueue = s.nvQueue := rfl
@[simp] theorem State.removeFirst_nvWrite (l : Link) : (s.removeFirst l).nvWrite = s.nvWrite := rfl
@[simp] theorem State.removeFirst_rootReplies (l : Link) : (s.removeFirst l).rootReplies = s.rootReplies := rfl
@[simp] theorem State.removeFirst_identity (l : Link) : (s.removeFirst l).identity = s.identity := rfl
@[simp] theorem State.removeFirst_renewals (l : Link) : (s.removeFirst l).renewals = s.renewals := rfl
@[simp] theorem State.removeFirst_links (l : Link) : (s.removeFirst l).links = s.links := rfl
@[simp] theorem State.removeFirst_faults (l : Link) : (s.removeFirst l).faults = s.faults := rfl
@[simp] theorem State.removeFirst_noticeMode (l : Link) : (s.removeFirst l).noticeMode = s.noticeMode := rfl
@[simp] theorem State.removeFirst_owed (l : Link) : (s.removeFirst l).owed = s.owed := rfl
@[simp] theorem State.removeFirst_log (l : Link) : (s.removeFirst l).log = s.log := rfl
@[simp] theorem State.removeFirst_lost (l : Link) : (s.removeFirst l).lost = s.lost := rfl
@[simp] theorem State.removeFirst_tickCount (l : Link) : (s.removeFirst l).tickCount = s.tickCount := rfl
@[simp] theorem State.removeFirst_draws (l : Link) : (s.removeFirst l).draws = s.draws := rfl
@[simp] theorem State.removeFirst_choices (l : Link) : (s.removeFirst l).choices = s.choices := rfl
@[simp] theorem State.removeFirst_protections (l : Link) : (s.removeFirst l).protections = s.protections := rfl
@[simp] theorem State.removeFirst_keySet (l : Link) (m : Link) : (s.removeFirst l).keySet m = s.keySet m := rfl
@[simp] theorem State.removeFirst_renewal (l : Link) (m : Link) : (s.removeFirst l).renewal m = s.renewal m := rfl
@[simp] theorem State.removeFirst_entry (l : Link) (m : Link) : (s.removeFirst l).entry m = s.entry m := rfl
@[simp] theorem State.removeFirst_faultRecord (l : Link) (m : Link) : (s.removeFirst l).faultRecord m = s.faultRecord m := rfl
@[simp] theorem State.removeFirst_root (l : Link) (n : EntryNo) : (s.removeFirst l).root n = s.root n := rfl

/-! ## removeLane -/

@[simp] theorem State.removeLane_pending (lane : Lane) : (s.removeLane lane).pending = s.pending := rfl
@[simp] theorem State.removeLane_powered (lane : Lane) : (s.removeLane lane).powered = s.powered := rfl
@[simp] theorem State.removeLane_resetLow (lane : Lane) : (s.removeLane lane).resetLow = s.resetLow := rfl
@[simp] theorem State.removeLane_starting (lane : Lane) : (s.removeLane lane).starting = s.starting := rfl
@[simp] theorem State.removeLane_requests (lane : Lane) : (s.removeLane lane).requests = s.requests := rfl
@[simp] theorem State.removeLane_output (lane : Lane) : (s.removeLane lane).output = s.output := rfl
@[simp] theorem State.removeLane_reading (lane : Lane) : (s.removeLane lane).reading = s.reading := rfl
@[simp] theorem State.removeLane_frameErrors (lane : Lane) : (s.removeLane lane).frameErrors = s.frameErrors := rfl
@[simp] theorem State.removeLane_overruns (lane : Lane) : (s.removeLane lane).overruns = s.overruns := rfl
@[simp] theorem State.removeLane_fresh (lane : Lane) : (s.removeLane lane).fresh = s.fresh := rfl
@[simp] theorem State.removeLane_cause (lane : Lane) : (s.removeLane lane).cause = s.cause := rfl
@[simp] theorem State.removeLane_pointer (lane : Lane) : (s.removeLane lane).pointer = s.pointer := rfl
@[simp] theorem State.removeLane_keys (lane : Lane) : (s.removeLane lane).keys = s.keys := rfl
@[simp] theorem State.removeLane_roots (lane : Lane) : (s.removeLane lane).roots = s.roots := rfl
@[simp] theorem State.removeLane_nvQueue (lane : Lane) : (s.removeLane lane).nvQueue = s.nvQueue := rfl
@[simp] theorem State.removeLane_nvWrite (lane : Lane) : (s.removeLane lane).nvWrite = s.nvWrite := rfl
@[simp] theorem State.removeLane_rootReplies (lane : Lane) : (s.removeLane lane).rootReplies = s.rootReplies := rfl
@[simp] theorem State.removeLane_identity (lane : Lane) : (s.removeLane lane).identity = s.identity := rfl
@[simp] theorem State.removeLane_renewals (lane : Lane) : (s.removeLane lane).renewals = s.renewals := rfl
@[simp] theorem State.removeLane_links (lane : Lane) : (s.removeLane lane).links = s.links := rfl
@[simp] theorem State.removeLane_faults (lane : Lane) : (s.removeLane lane).faults = s.faults := rfl
@[simp] theorem State.removeLane_noticeMode (lane : Lane) : (s.removeLane lane).noticeMode = s.noticeMode := rfl
@[simp] theorem State.removeLane_owed (lane : Lane) : (s.removeLane lane).owed = s.owed := rfl
@[simp] theorem State.removeLane_log (lane : Lane) : (s.removeLane lane).log = s.log := rfl
@[simp] theorem State.removeLane_lost (lane : Lane) : (s.removeLane lane).lost = s.lost := rfl
@[simp] theorem State.removeLane_tickCount (lane : Lane) : (s.removeLane lane).tickCount = s.tickCount := rfl
@[simp] theorem State.removeLane_draws (lane : Lane) : (s.removeLane lane).draws = s.draws := rfl
@[simp] theorem State.removeLane_choices (lane : Lane) : (s.removeLane lane).choices = s.choices := rfl
@[simp] theorem State.removeLane_protections (lane : Lane) : (s.removeLane lane).protections = s.protections := rfl
@[simp] theorem State.removeLane_keySet (lane : Lane) (m : Link) : (s.removeLane lane).keySet m = s.keySet m := rfl
@[simp] theorem State.removeLane_renewal (lane : Lane) (m : Link) : (s.removeLane lane).renewal m = s.renewal m := rfl
@[simp] theorem State.removeLane_entry (lane : Lane) (m : Link) : (s.removeLane lane).entry m = s.entry m := rfl
@[simp] theorem State.removeLane_faultRecord (lane : Lane) (m : Link) : (s.removeLane lane).faultRecord m = s.faultRecord m := rfl
@[simp] theorem State.removeLane_root (lane : Lane) (n : EntryNo) : (s.removeLane lane).root n = s.root n := rfl

/-! ## withdraw -/

@[simp] theorem State.withdraw_pending (l : Link) (sort : Work → Bool) : (s.withdraw l sort).pending = s.pending := rfl
@[simp] theorem State.withdraw_powered (l : Link) (sort : Work → Bool) : (s.withdraw l sort).powered = s.powered := rfl
@[simp] theorem State.withdraw_resetLow (l : Link) (sort : Work → Bool) : (s.withdraw l sort).resetLow = s.resetLow := rfl
@[simp] theorem State.withdraw_starting (l : Link) (sort : Work → Bool) : (s.withdraw l sort).starting = s.starting := rfl
@[simp] theorem State.withdraw_requests (l : Link) (sort : Work → Bool) : (s.withdraw l sort).requests = s.requests := rfl
@[simp] theorem State.withdraw_output (l : Link) (sort : Work → Bool) : (s.withdraw l sort).output = s.output := rfl
@[simp] theorem State.withdraw_reading (l : Link) (sort : Work → Bool) : (s.withdraw l sort).reading = s.reading := rfl
@[simp] theorem State.withdraw_frameErrors (l : Link) (sort : Work → Bool) : (s.withdraw l sort).frameErrors = s.frameErrors := rfl
@[simp] theorem State.withdraw_overruns (l : Link) (sort : Work → Bool) : (s.withdraw l sort).overruns = s.overruns := rfl
@[simp] theorem State.withdraw_fresh (l : Link) (sort : Work → Bool) : (s.withdraw l sort).fresh = s.fresh := rfl
@[simp] theorem State.withdraw_cause (l : Link) (sort : Work → Bool) : (s.withdraw l sort).cause = s.cause := rfl
@[simp] theorem State.withdraw_pointer (l : Link) (sort : Work → Bool) : (s.withdraw l sort).pointer = s.pointer := rfl
@[simp] theorem State.withdraw_keys (l : Link) (sort : Work → Bool) : (s.withdraw l sort).keys = s.keys := rfl
@[simp] theorem State.withdraw_roots (l : Link) (sort : Work → Bool) : (s.withdraw l sort).roots = s.roots := rfl
@[simp] theorem State.withdraw_nvQueue (l : Link) (sort : Work → Bool) : (s.withdraw l sort).nvQueue = s.nvQueue := rfl
@[simp] theorem State.withdraw_nvWrite (l : Link) (sort : Work → Bool) : (s.withdraw l sort).nvWrite = s.nvWrite := rfl
@[simp] theorem State.withdraw_rootReplies (l : Link) (sort : Work → Bool) : (s.withdraw l sort).rootReplies = s.rootReplies := rfl
@[simp] theorem State.withdraw_identity (l : Link) (sort : Work → Bool) : (s.withdraw l sort).identity = s.identity := rfl
@[simp] theorem State.withdraw_renewals (l : Link) (sort : Work → Bool) : (s.withdraw l sort).renewals = s.renewals := rfl
@[simp] theorem State.withdraw_links (l : Link) (sort : Work → Bool) : (s.withdraw l sort).links = s.links := rfl
@[simp] theorem State.withdraw_faults (l : Link) (sort : Work → Bool) : (s.withdraw l sort).faults = s.faults := rfl
@[simp] theorem State.withdraw_noticeMode (l : Link) (sort : Work → Bool) : (s.withdraw l sort).noticeMode = s.noticeMode := rfl
@[simp] theorem State.withdraw_owed (l : Link) (sort : Work → Bool) : (s.withdraw l sort).owed = s.owed := rfl
@[simp] theorem State.withdraw_log (l : Link) (sort : Work → Bool) : (s.withdraw l sort).log = s.log := rfl
@[simp] theorem State.withdraw_lost (l : Link) (sort : Work → Bool) : (s.withdraw l sort).lost = s.lost := rfl
@[simp] theorem State.withdraw_tickCount (l : Link) (sort : Work → Bool) : (s.withdraw l sort).tickCount = s.tickCount := rfl
@[simp] theorem State.withdraw_draws (l : Link) (sort : Work → Bool) : (s.withdraw l sort).draws = s.draws := rfl
@[simp] theorem State.withdraw_choices (l : Link) (sort : Work → Bool) : (s.withdraw l sort).choices = s.choices := rfl
@[simp] theorem State.withdraw_protections (l : Link) (sort : Work → Bool) : (s.withdraw l sort).protections = s.protections := rfl
@[simp] theorem State.withdraw_keySet (l : Link) (sort : Work → Bool) (m : Link) : (s.withdraw l sort).keySet m = s.keySet m := rfl
@[simp] theorem State.withdraw_renewal (l : Link) (sort : Work → Bool) (m : Link) : (s.withdraw l sort).renewal m = s.renewal m := rfl
@[simp] theorem State.withdraw_entry (l : Link) (sort : Work → Bool) (m : Link) : (s.withdraw l sort).entry m = s.entry m := rfl
@[simp] theorem State.withdraw_faultRecord (l : Link) (sort : Work → Bool) (m : Link) : (s.withdraw l sort).faultRecord m = s.faultRecord m := rfl
@[simp] theorem State.withdraw_root (l : Link) (sort : Work → Bool) (n : EntryNo) : (s.withdraw l sort).root n = s.root n := rfl

/-! ## sealing -/

@[simp] theorem State.sealing_pending (x : Seal) : (s.sealing x).pending = s.pending := rfl
@[simp] theorem State.sealing_powered (x : Seal) : (s.sealing x).powered = s.powered := rfl
@[simp] theorem State.sealing_resetLow (x : Seal) : (s.sealing x).resetLow = s.resetLow := rfl
@[simp] theorem State.sealing_starting (x : Seal) : (s.sealing x).starting = s.starting := rfl
@[simp] theorem State.sealing_requests (x : Seal) : (s.sealing x).requests = s.requests := rfl
@[simp] theorem State.sealing_output (x : Seal) : (s.sealing x).output = s.output := rfl
@[simp] theorem State.sealing_reading (x : Seal) : (s.sealing x).reading = s.reading := rfl
@[simp] theorem State.sealing_frameErrors (x : Seal) : (s.sealing x).frameErrors = s.frameErrors := rfl
@[simp] theorem State.sealing_overruns (x : Seal) : (s.sealing x).overruns = s.overruns := rfl
@[simp] theorem State.sealing_fresh (x : Seal) : (s.sealing x).fresh = s.fresh := rfl
@[simp] theorem State.sealing_cause (x : Seal) : (s.sealing x).cause = s.cause := rfl
@[simp] theorem State.sealing_pool (x : Seal) : (s.sealing x).pool = s.pool := rfl
@[simp] theorem State.sealing_pointer (x : Seal) : (s.sealing x).pointer = s.pointer := rfl
@[simp] theorem State.sealing_keys (x : Seal) : (s.sealing x).keys = s.keys := rfl
@[simp] theorem State.sealing_roots (x : Seal) : (s.sealing x).roots = s.roots := rfl
@[simp] theorem State.sealing_nvQueue (x : Seal) : (s.sealing x).nvQueue = s.nvQueue := rfl
@[simp] theorem State.sealing_nvWrite (x : Seal) : (s.sealing x).nvWrite = s.nvWrite := rfl
@[simp] theorem State.sealing_rootReplies (x : Seal) : (s.sealing x).rootReplies = s.rootReplies := rfl
@[simp] theorem State.sealing_identity (x : Seal) : (s.sealing x).identity = s.identity := rfl
@[simp] theorem State.sealing_renewals (x : Seal) : (s.sealing x).renewals = s.renewals := rfl
@[simp] theorem State.sealing_links (x : Seal) : (s.sealing x).links = s.links := rfl
@[simp] theorem State.sealing_faults (x : Seal) : (s.sealing x).faults = s.faults := rfl
@[simp] theorem State.sealing_noticeMode (x : Seal) : (s.sealing x).noticeMode = s.noticeMode := rfl
@[simp] theorem State.sealing_owed (x : Seal) : (s.sealing x).owed = s.owed := rfl
@[simp] theorem State.sealing_log (x : Seal) : (s.sealing x).log = s.log := rfl
@[simp] theorem State.sealing_lost (x : Seal) : (s.sealing x).lost = s.lost := rfl
@[simp] theorem State.sealing_tickCount (x : Seal) : (s.sealing x).tickCount = s.tickCount := rfl
@[simp] theorem State.sealing_draws (x : Seal) : (s.sealing x).draws = s.draws := rfl
@[simp] theorem State.sealing_choices (x : Seal) : (s.sealing x).choices = s.choices := rfl
@[simp] theorem State.sealing_keySet (x : Seal) (m : Link) : (s.sealing x).keySet m = s.keySet m := rfl
@[simp] theorem State.sealing_renewal (x : Seal) (m : Link) : (s.sealing x).renewal m = s.renewal m := rfl
@[simp] theorem State.sealing_entry (x : Seal) (m : Link) : (s.sealing x).entry m = s.entry m := rfl
@[simp] theorem State.sealing_faultRecord (x : Seal) (m : Link) : (s.sealing x).faultRecord m = s.faultRecord m := rfl
@[simp] theorem State.sealing_root (x : Seal) (n : EntryNo) : (s.sealing x).root n = s.root n := rfl

/-! ## landWrite -/

@[simp] theorem State.landWrite_pending (w : NvWrite) : (s.landWrite w).pending = s.pending := rfl
@[simp] theorem State.landWrite_powered (w : NvWrite) : (s.landWrite w).powered = s.powered := rfl
@[simp] theorem State.landWrite_resetLow (w : NvWrite) : (s.landWrite w).resetLow = s.resetLow := rfl
@[simp] theorem State.landWrite_starting (w : NvWrite) : (s.landWrite w).starting = s.starting := rfl
@[simp] theorem State.landWrite_requests (w : NvWrite) : (s.landWrite w).requests = s.requests := rfl
@[simp] theorem State.landWrite_output (w : NvWrite) : (s.landWrite w).output = s.output := rfl
@[simp] theorem State.landWrite_reading (w : NvWrite) : (s.landWrite w).reading = s.reading := rfl
@[simp] theorem State.landWrite_frameErrors (w : NvWrite) : (s.landWrite w).frameErrors = s.frameErrors := rfl
@[simp] theorem State.landWrite_overruns (w : NvWrite) : (s.landWrite w).overruns = s.overruns := rfl
@[simp] theorem State.landWrite_fresh (w : NvWrite) : (s.landWrite w).fresh = s.fresh := rfl
@[simp] theorem State.landWrite_cause (w : NvWrite) : (s.landWrite w).cause = s.cause := rfl
@[simp] theorem State.landWrite_pool (w : NvWrite) : (s.landWrite w).pool = s.pool := rfl
@[simp] theorem State.landWrite_pointer (w : NvWrite) : (s.landWrite w).pointer = s.pointer := rfl
@[simp] theorem State.landWrite_keys (w : NvWrite) : (s.landWrite w).keys = s.keys := rfl
@[simp] theorem State.landWrite_nvQueue (w : NvWrite) : (s.landWrite w).nvQueue = s.nvQueue := rfl
@[simp] theorem State.landWrite_nvWrite (w : NvWrite) : (s.landWrite w).nvWrite = s.nvWrite := rfl
@[simp] theorem State.landWrite_rootReplies (w : NvWrite) : (s.landWrite w).rootReplies = s.rootReplies := rfl
@[simp] theorem State.landWrite_identity (w : NvWrite) : (s.landWrite w).identity = s.identity := rfl
@[simp] theorem State.landWrite_renewals (w : NvWrite) : (s.landWrite w).renewals = s.renewals := rfl
@[simp] theorem State.landWrite_links (w : NvWrite) : (s.landWrite w).links = s.links := rfl
@[simp] theorem State.landWrite_faults (w : NvWrite) : (s.landWrite w).faults = s.faults := rfl
@[simp] theorem State.landWrite_noticeMode (w : NvWrite) : (s.landWrite w).noticeMode = s.noticeMode := rfl
@[simp] theorem State.landWrite_owed (w : NvWrite) : (s.landWrite w).owed = s.owed := rfl
@[simp] theorem State.landWrite_log (w : NvWrite) : (s.landWrite w).log = s.log := rfl
@[simp] theorem State.landWrite_lost (w : NvWrite) : (s.landWrite w).lost = s.lost := rfl
@[simp] theorem State.landWrite_tickCount (w : NvWrite) : (s.landWrite w).tickCount = s.tickCount := rfl
@[simp] theorem State.landWrite_draws (w : NvWrite) : (s.landWrite w).draws = s.draws := rfl
@[simp] theorem State.landWrite_choices (w : NvWrite) : (s.landWrite w).choices = s.choices := rfl
@[simp] theorem State.landWrite_protections (w : NvWrite) : (s.landWrite w).protections = s.protections := rfl
@[simp] theorem State.landWrite_keySet (w : NvWrite) (m : Link) : (s.landWrite w).keySet m = s.keySet m := rfl
@[simp] theorem State.landWrite_renewal (w : NvWrite) (m : Link) : (s.landWrite w).renewal m = s.renewal m := rfl
@[simp] theorem State.landWrite_entry (w : NvWrite) (m : Link) : (s.landWrite w).entry m = s.entry m := rfl
@[simp] theorem State.landWrite_faultRecord (w : NvWrite) (m : Link) : (s.landWrite w).faultRecord m = s.faultRecord m := rfl

/-! ## What an update writes -/

@[simp] theorem State.keySet_setKeys_same (l : Link) (k : KeySet) : (s.setKeys l k).keySet l = k := by
  simp [State.keySet, State.setKeys]

@[simp] theorem State.keySet_setKeys_ne (l m : Link) (k : KeySet) (h : m ≠ l) :
    (s.setKeys l k).keySet m = s.keySet m := by
  simp [State.keySet, State.setKeys, h]

@[simp] theorem State.renewal_setRenewal_same (l : Link) (c : RenewalContext) : (s.setRenewal l c).renewal l = c := by
  simp [State.renewal, State.setRenewal]

@[simp] theorem State.renewal_setRenewal_ne (l m : Link) (c : RenewalContext) (h : m ≠ l) :
    (s.setRenewal l c).renewal m = s.renewal m := by
  simp [State.renewal, State.setRenewal, h]

@[simp] theorem State.renewal_onRenewal_same (l : Link) (f : RenewalContext → RenewalContext) :
    (s.onRenewal l f).renewal l = f (s.renewal l) := by
  simp [State.onRenewal]

@[simp] theorem State.renewal_onRenewal_ne (l m : Link) (f : RenewalContext → RenewalContext) (h : m ≠ l) :
    (s.onRenewal l f).renewal m = s.renewal m := by
  simp [State.onRenewal, h]

@[simp] theorem State.entry_setEntry_same (l : Link) (e : Option LinkEntry) : (s.setEntry l e).entry l = e := by
  simp [State.entry, State.setEntry]

@[simp] theorem State.entry_setEntry_ne (l m : Link) (e : Option LinkEntry) (h : m ≠ l) :
    (s.setEntry l e).entry m = s.entry m := by
  simp [State.entry, State.setEntry, h]

@[simp] theorem State.entry_onEntry_same (l : Link) (f : LinkEntry → LinkEntry) :
    (s.onEntry l f).entry l = (s.entry l).map f := by
  simp [State.onEntry]

@[simp] theorem State.entry_onEntry_ne (l m : Link) (f : LinkEntry → LinkEntry) (h : m ≠ l) :
    (s.onEntry l f).entry m = s.entry m := by
  simp [State.onEntry, h]

@[simp] theorem State.faultRecord_setFaults_same (l : Link) (r : FaultRecord) : (s.setFaults l r).faultRecord l = r := by
  simp [State.faultRecord, State.setFaults]

@[simp] theorem State.faultRecord_setFaults_ne (l m : Link) (r : FaultRecord) (h : m ≠ l) :
    (s.setFaults l r).faultRecord m = s.faultRecord m := by
  simp [State.faultRecord, State.setFaults, h]

@[simp] theorem State.faultRecord_onFaults_same (l : Link) (f : FaultRecord → FaultRecord) :
    (s.onFaults l f).faultRecord l = f (s.faultRecord l) := by
  simp [State.onFaults]

@[simp] theorem State.faultRecord_onFaults_ne (l m : Link) (f : FaultRecord → FaultRecord) (h : m ≠ l) :
    (s.onFaults l f).faultRecord m = s.faultRecord m := by
  simp [State.onFaults, h]

@[simp] theorem State.root_setRoot_same (i : EntryNo) (r : RootEntry) : (s.setRoot i r).root i = r := by
  simp [State.root, State.setRoot]

@[simp] theorem State.root_setRoot_ne (i n : EntryNo) (r : RootEntry) (h : n ≠ i) :
    (s.setRoot i r).root n = s.root n := by
  simp [State.root, State.setRoot, h]

@[simp] theorem State.place_output (f : OutFrame) : (s.place f).output = s.output ++ [f] := rfl

@[simp] theorem State.append_pool (j : Job) : (s.append j).pool = s.pool ++ [j] := rfl

@[simp] theorem State.sealing_protections (x : Seal) : (s.sealing x).protections = s.protections ++ [x.protection] := rfl

@[simp] theorem State.chosen_choices : s.chosen.choices = s.choices + 1 := rfl

@[simp] theorem State.removeFirst_pool (l : Link) :
    (s.removeFirst l).pool = s.pool.eraseP fun j => decide (j.link = l) := rfl

@[simp] theorem State.removeLane_pool (lane : Lane) :
    (s.removeLane lane).pool = s.pool.eraseP fun j => j.isIn lane := rfl

@[simp] theorem State.onFirst_pool (l : Link) (f : Job → Job) :
    (s.onFirst l f).pool = changeFirst (fun j => decide (j.link = l)) f s.pool := rfl

@[simp] theorem State.reply_eq (r : Request) (status : Status) (rest : List Byte) :
    s.reply r status rest = s.place (replyFrame r.tag r.kind status rest) := rfl

end Sys2Proof.Machine
end

