-- ==== Sys2Proof/Laws/Ops.lean ====
section
/-! SUPPORT. What each shared operation can do: for a report to the fault monitor, for a round or trigger of a link, for
the other operations on a link and for those that take the claims of several links, one lemma per operation that says what
it leaves unchanged. -/

namespace Sys2Proof.Machine

open Sys2Proof

/-! ## The sorts of change -/

/-- From `s` to `t` at most the fault monitor and its notices have moved: fault records, output, owed set and log. -/
structure FaultFrame (s t : State) : Prop where
  pending : t.pending = s.pending
  powered : t.powered = s.powered
  resetLow : t.resetLow = s.resetLow
  starting : t.starting = s.starting
  requests : t.requests = s.requests
  reading : t.reading = s.reading
  frameErrors : t.frameErrors = s.frameErrors
  overruns : t.overruns = s.overruns
  fresh : t.fresh = s.fresh
  cause : t.cause = s.cause
  pool : t.pool = s.pool
  pointer : t.pointer = s.pointer
  keys : t.keys = s.keys
  roots : t.roots = s.roots
  nvQueue : t.nvQueue = s.nvQueue
  nvWrite : t.nvWrite = s.nvWrite
  rootReplies : t.rootReplies = s.rootReplies
  identity : t.identity = s.identity
  renewals : t.renewals = s.renewals
  links : t.links = s.links
  noticeMode : t.noticeMode = s.noticeMode
  tickCount : t.tickCount = s.tickCount
  draws : t.draws = s.draws
  choices : t.choices = s.choices
  protections : t.protections = s.protections

/-- From `s` to `t` at most a round of link `l` has moved: the fault monitor, the link's jobs, its key set, its renewal
context, live ceilings, the NV write queue, and the open choices. -/
structure RoundFrame (l : Link) (s t : State) : Prop where
  pending : t.pending = s.pending
  powered : t.powered = s.powered
  resetLow : t.resetLow = s.resetLow
  starting : t.starting = s.starting
  requests : t.requests = s.requests
  reading : t.reading = s.reading
  frameErrors : t.frameErrors = s.frameErrors
  overruns : t.overruns = s.overruns
  fresh : t.fresh = s.fresh
  cause : t.cause = s.cause
  pointer : t.pointer = s.pointer
  rootReplies : t.rootReplies = s.rootReplies
  identity : t.identity = s.identity
  links : t.links = s.links
  noticeMode : t.noticeMode = s.noticeMode
  tickCount : t.tickCount = s.tickCount
  protections : t.protections = s.protections
  keySet : ∀ m, m ≠ l → t.keySet m = s.keySet m
  renewal : ∀ m, m ≠ l → t.renewal m = s.renewal m
  jobList : ∀ m, m ≠ l → t.jobList m = s.jobList m
  root : ∀ e, ∃ c, t.root e = { s.root e with ceiling := c }

/-- From `s` to `t` at most what link `l` holds has moved: a round of it and its link table entry. -/
structure LinkFrame (l : Link) (s t : State) : Prop where
  pending : t.pending = s.pending
  powered : t.powered = s.powered
  resetLow : t.resetLow = s.resetLow
  starting : t.starting = s.starting
  requests : t.requests = s.requests
  reading : t.reading = s.reading
  frameErrors : t.frameErrors = s.frameErrors
  overruns : t.overruns = s.overruns
  fresh : t.fresh = s.fresh
  cause : t.cause = s.cause
  pointer : t.pointer = s.pointer
  rootReplies : t.rootReplies = s.rootReplies
  identity : t.identity = s.identity
  noticeMode : t.noticeMode = s.noticeMode
  tickCount : t.tickCount = s.tickCount
  protections : t.protections = s.protections
  keySet : ∀ m, m ≠ l → t.keySet m = s.keySet m
  renewal : ∀ m, m ≠ l → t.renewal m = s.renewal m
  entry : ∀ m, m ≠ l → t.entry m = s.entry m
  jobList : ∀ m, m ≠ l → t.jobList m = s.jobList m
  root : ∀ e, ∃ c, t.root e = { s.root e with ceiling := c }

/-- From `s` to `t` nothing has moved but what the links hold: the port's counts and queue, the time base, the levels and
the stored images are as they were. -/
structure PartFrame (s t : State) : Prop where
  pending : t.pending = s.pending
  powered : t.powered = s.powered
  resetLow : t.resetLow = s.resetLow
  starting : t.starting = s.starting
  requests : t.requests = s.requests
  reading : t.reading = s.reading
  frameErrors : t.frameErrors = s.frameErrors
  overruns : t.overruns = s.overruns
  fresh : t.fresh = s.fresh
  cause : t.cause = s.cause
  pointer : t.pointer = s.pointer
  rootReplies : t.rootReplies = s.rootReplies
  identity : t.identity = s.identity
  noticeMode : t.noticeMode = s.noticeMode
  tickCount : t.tickCount = s.tickCount
  protections : t.protections = s.protections
  root : ∀ e, ∃ c, t.root e = { s.root e with ceiling := c }

theorem FaultFrame.refl (s : State) : FaultFrame s s := by constructor <;> rfl

theorem FaultFrame.trans {s t u : State} (h : FaultFrame s t) (k : FaultFrame t u) : FaultFrame s u := by
  constructor
  · exact k.pending.trans h.pending
  · exact k.powered.trans h.powered
  · exact k.resetLow.trans h.resetLow
  · exact k.starting.trans h.starting
  · exact k.requests.trans h.requests
  · exact k.reading.trans h.reading
  · exact k.frameErrors.trans h.frameErrors
  · exact k.overruns.trans h.overruns
  · exact k.fresh.trans h.fresh
  · exact k.cause.trans h.cause
  · exact k.pool.trans h.pool
  · exact k.pointer.trans h.pointer
  · exact k.keys.trans h.keys
  · exact k.roots.trans h.roots
  · exact k.nvQueue.trans h.nvQueue
  · exact k.nvWrite.trans h.nvWrite
  · exact k.rootReplies.trans h.rootReplies
  · exact k.identity.trans h.identity
  · exact k.renewals.trans h.renewals
  · exact k.links.trans h.links
  · exact k.noticeMode.trans h.noticeMode
  · exact k.tickCount.trans h.tickCount
  · exact k.draws.trans h.draws
  · exact k.choices.trans h.choices
  · exact k.protections.trans h.protections

theorem FaultFrame.keySet {s t : State} (h : FaultFrame s t) (m : Link) : t.keySet m = s.keySet m := by
  simp [State.keySet, h.keys]

theorem FaultFrame.renewal {s t : State} (h : FaultFrame s t) (m : Link) : t.renewal m = s.renewal m := by
  simp [State.renewal, h.renewals]

theorem FaultFrame.entry {s t : State} (h : FaultFrame s t) (m : Link) : t.entry m = s.entry m := by
  simp [State.entry, h.links]

theorem FaultFrame.root {s t : State} (h : FaultFrame s t) (e : EntryNo) : t.root e = s.root e := by
  simp [State.root, h.roots]

theorem FaultFrame.round {s t : State} (l : Link) (h : FaultFrame s t) : RoundFrame l s t where
  pending := h.pending
  powered := h.powered
  resetLow := h.resetLow
  starting := h.starting
  requests := h.requests
  reading := h.reading
  frameErrors := h.frameErrors
  overruns := h.overruns
  fresh := h.fresh
  cause := h.cause
  pointer := h.pointer
  rootReplies := h.rootReplies
  identity := h.identity
  links := h.links
  noticeMode := h.noticeMode
  tickCount := h.tickCount
  protections := h.protections
  keySet m _ := h.keySet m
  renewal m _ := h.renewal m
  jobList m _ := by simp [State.jobList, h.pool]
  root e := ⟨(s.root e).ceiling, h.root e⟩

theorem RoundFrame.refl (l : Link) (s : State) : RoundFrame l s s := (FaultFrame.refl s).round l

theorem RoundFrame.trans {l : Link} {s t u : State} (h : RoundFrame l s t) (k : RoundFrame l t u) :
    RoundFrame l s u where
  pending := k.pending.trans h.pending
  powered := k.powered.trans h.powered
  resetLow := k.resetLow.trans h.resetLow
  starting := k.starting.trans h.starting
  requests := k.requests.trans h.requests
  reading := k.reading.trans h.reading
  frameErrors := k.frameErrors.trans h.frameErrors
  overruns := k.overruns.trans h.overruns
  fresh := k.fresh.trans h.fresh
  cause := k.cause.trans h.cause
  pointer := k.pointer.trans h.pointer
  rootReplies := k.rootReplies.trans h.rootReplies
  identity := k.identity.trans h.identity
  links := k.links.trans h.links
  noticeMode := k.noticeMode.trans h.noticeMode
  tickCount := k.tickCount.trans h.tickCount
  protections := k.protections.trans h.protections
  keySet m hm := (k.keySet m hm).trans (h.keySet m hm)
  renewal m hm := (k.renewal m hm).trans (h.renewal m hm)
  jobList m hm := (k.jobList m hm).trans (h.jobList m hm)
  root e := by
    obtain ⟨c, hc⟩ := h.root e
    obtain ⟨d, hd⟩ := k.root e
    exact ⟨d, by rw [hd, hc]⟩

theorem RoundFrame.entry {l : Link} {s t : State} (h : RoundFrame l s t) (m : Link) : t.entry m = s.entry m := by
  simp [State.entry, h.links]

theorem RoundFrame.link {l : Link} {s t : State} (h : RoundFrame l s t) : LinkFrame l s t where
  pending := h.pending
  powered := h.powered
  resetLow := h.resetLow
  starting := h.starting
  requests := h.requests
  reading := h.reading
  frameErrors := h.frameErrors
  overruns := h.overruns
  fresh := h.fresh
  cause := h.cause
  pointer := h.pointer
  rootReplies := h.rootReplies
  identity := h.identity
  noticeMode := h.noticeMode
  tickCount := h.tickCount
  protections := h.protections
  keySet := h.keySet
  renewal := h.renewal
  entry m _ := h.entry m
  jobList := h.jobList
  root := h.root

theorem LinkFrame.refl (l : Link) (s : State) : LinkFrame l s s := (RoundFrame.refl l s).link

theorem LinkFrame.trans {l : Link} {s t u : State} (h : LinkFrame l s t) (k : LinkFrame l t u) : LinkFrame l s u where
  pending := k.pending.trans h.pending
  powered := k.powered.trans h.powered
  resetLow := k.resetLow.trans h.resetLow
  starting := k.starting.trans h.starting
  requests := k.requests.trans h.requests
  reading := k.reading.trans h.reading
  frameErrors := k.frameErrors.trans h.frameErrors
  overruns := k.overruns.trans h.overruns
  fresh := k.fresh.trans h.fresh
  cause := k.cause.trans h.cause
  pointer := k.pointer.trans h.pointer
  rootReplies := k.rootReplies.trans h.rootReplies
  identity := k.identity.trans h.identity
  noticeMode := k.noticeMode.trans h.noticeMode
  tickCount := k.tickCount.trans h.tickCount
  protections := k.protections.trans h.protections
  keySet m hm := (k.keySet m hm).trans (h.keySet m hm)
  renewal m hm := (k.renewal m hm).trans (h.renewal m hm)
  entry m hm := (k.entry m hm).trans (h.entry m hm)
  jobList m hm := (k.jobList m hm).trans (h.jobList m hm)
  root e := by
    obtain ⟨c, hc⟩ := h.root e
    obtain ⟨d, hd⟩ := k.root e
    exact ⟨d, by rw [hd, hc]⟩

theorem LinkFrame.part {l : Link} {s t : State} (h : LinkFrame l s t) : PartFrame s t where
  pending := h.pending
  powered := h.powered
  resetLow := h.resetLow
  starting := h.starting
  requests := h.requests
  reading := h.reading
  frameErrors := h.frameErrors
  overruns := h.overruns
  fresh := h.fresh
  cause := h.cause
  pointer := h.pointer
  rootReplies := h.rootReplies
  identity := h.identity
  noticeMode := h.noticeMode
  tickCount := h.tickCount
  protections := h.protections
  root := h.root

theorem PartFrame.refl (s : State) : PartFrame s s := (LinkFrame.refl 0 s).part

theorem PartFrame.trans {s t u : State} (h : PartFrame s t) (k : PartFrame t u) : PartFrame s u where
  pending := k.pending.trans h.pending
  powered := k.powered.trans h.powered
  resetLow := k.resetLow.trans h.resetLow
  starting := k.starting.trans h.starting
  requests := k.requests.trans h.requests
  reading := k.reading.trans h.reading
  frameErrors := k.frameErrors.trans h.frameErrors
  overruns := k.overruns.trans h.overruns
  fresh := k.fresh.trans h.fresh
  cause := k.cause.trans h.cause
  pointer := k.pointer.trans h.pointer
  rootReplies := k.rootReplies.trans h.rootReplies
  identity := k.identity.trans h.identity
  noticeMode := k.noticeMode.trans h.noticeMode
  tickCount := k.tickCount.trans h.tickCount
  protections := k.protections.trans h.protections
  root e := by
    obtain ⟨c, hc⟩ := h.root e
    obtain ⟨d, hd⟩ := k.root e
    exact ⟨d, by rw [hd, hc]⟩

/-! ## Notices and occurrences -/

theorem State.placeNotice_frame (s : State) (l : Link) : FaultFrame s (s.placeNotice l) := by constructor <;> rfl

theorem State.becomePending_frame (s : State) (l : Link) : FaultFrame s (s.becomePending l) := by
  unfold State.becomePending
  split
  · exact .refl s
  · split
    · exact s.placeNotice_frame l
    · constructor <;> rfl

theorem State.ceasePending_frame (s : State) (l : Link) : FaultFrame s (s.ceasePending l) := by constructor <;> rfl

theorem State.judgePending_frame (s : State) (l : Link) (before : Bool) : FaultFrame s (s.judgePending l before) := by
  unfold State.judgePending
  split
  · exact s.becomePending_frame l
  · exact s.ceasePending_frame l
  · exact .refl s
  · exact .refl s

theorem serveOwedList_frame (ls : List Link) (s : State) : FaultFrame s (serveOwedList ls s) := by
  induction ls generalizing s with
  | nil => exact .refl s
  | cons l rest ih =>
    unfold serveOwedList
    split
    · exact .trans (.trans (by constructor <;> rfl) (State.placeNotice_frame { s with owed := rest } l)) (ih _)
    · exact .refl s

theorem State.serveOwed_frame (s : State) : FaultFrame s s.serveOwed := serveOwedList_frame s.owed s

theorem State.onFaults_frame (s : State) (l : Link) (f : FaultRecord → FaultRecord) : FaultFrame s (s.onFaults l f) := by
  constructor <;> rfl

theorem State.offerLog_frame (s : State) (x : LogEntry) : FaultFrame s (s.offerLog x) := by
  unfold State.offerLog
  split <;> constructor <;> rfl

/-- An occurrence moves nothing but the fault monitor and its notices (R136). -/
theorem State.occurrence_frame (s : State) (l : Link) (k : FaultKind) (epoch sequence : Option Nat) :
    FaultFrame s (s.occurrence l k epoch sequence) := by
  unfold State.occurrence
  split
  · exact s.onFaults_frame l _
  · exact (((s.onFaults_frame l _).trans (State.onFaults_frame _ l _)).trans (State.offerLog_frame _ _)).trans
      (State.judgePending_frame _ l _)

theorem State.toleratedDuplicate_frame (s : State) (l : Link) : FaultFrame s (s.toleratedDuplicate l) :=
  s.onFaults_frame l _

/-! ## Root store -/

theorem State.requestWrite_frame (l : Link) (s : State) (e : EntryNo) : RoundFrame l s (s.requestWrite e) := by
  have join : ∀ d : EntryNo, RoundFrame l s (s.joinNvQueue d) := by
    intro d
    unfold State.joinNvQueue
    split
    · exact .refl l s
    · constructor <;> first | rfl | (intros; rfl) | exact fun e => ⟨_, rfl⟩
  unfold State.requestWrite
  split
  · exact join e
  · split
    · constructor <;> first | rfl | (intros; rfl) | exact fun e => ⟨_, rfl⟩
    · exact join e

theorem State.raiseCeiling_frame (l : Link) (s : State) (e : EntryNo) : RoundFrame l s (s.raiseCeiling e) := by
  unfold State.raiseCeiling
  split
  · refine RoundFrame.trans ?_ (State.requestWrite_frame l _ e)
    constructor <;> try first | rfl | (intros; rfl)
    intro d
    by_cases h : d = e
    · subst h; exact ⟨_, by rw [State.root_setRoot_same]⟩
    · exact ⟨(s.root d).ceiling, by rw [State.root_setRoot_ne _ _ _ _ h]⟩
  · exact .refl l s

/-! ## Jobs -/

theorem changeFirst_filter {α : Type} (p q : α → Bool) (f : α → α) (h : ∀ x, p x = true → q x = false)
    (k : ∀ x, p x = true → q (f x) = false) (xs : List α) : (changeFirst p f xs).filter q = xs.filter q := by
  induction xs with
  | nil => rfl
  | cons x rest ih =>
    unfold changeFirst
    by_cases hp : p x = true
    · simp [hp, h x hp, k x hp]
    · simp [hp, List.filter_cons, ih]

theorem eraseP_filter {α : Type} (p q : α → Bool) (h : ∀ x, p x = true → q x = false) (xs : List α) :
    (xs.eraseP p).filter q = xs.filter q := by
  induction xs with
  | nil => rfl
  | cons x rest ih =>
    by_cases hp : p x = true
    · simp [hp, h x hp]
    · simp [hp, List.filter_cons, ih]

theorem State.append_frame (s : State) (l : Link) (j : Job) (h : j.link = l) : RoundFrame l s (s.append j) := by
  constructor <;> try first | rfl | (intros; rfl) | exact fun e => ⟨_, rfl⟩
  intro m hm
  have : j.link ≠ m := fun e => hm (e.symm.trans h)
  simp [State.jobList, List.filter_append, this]

theorem Job.withClaim_link (c : CounterClaim) (j : Job) : (j.withClaim c).link = j.link := rfl

theorem State.onFirst_frame (s : State) (l : Link) (f : Job → Job) (h : ∀ j, (f j).link = j.link) :
    RoundFrame l s (s.onFirst l f) := by
  constructor <;> try first | rfl | (intros; rfl) | exact fun e => ⟨_, rfl⟩
  intro m hm
  apply changeFirst_filter
  · intro x hx; simp only [decide_eq_true_eq] at hx; simp [hx, Ne.symm hm]
  · intro x hx; simp only [decide_eq_true_eq] at hx; simp [h, hx, Ne.symm hm]

theorem State.removeFirst_frame (s : State) (l : Link) : RoundFrame l s (s.removeFirst l) := by
  constructor <;> try first | rfl | (intros; rfl) | exact fun e => ⟨_, rfl⟩
  intro m hm
  apply eraseP_filter
  intro x hx; simp only [decide_eq_true_eq] at hx; simp [hx, Ne.symm hm]

theorem State.withdraw_frame (s : State) (l : Link) (sort : Work → Bool) : RoundFrame l s (s.withdraw l sort) := by
  constructor <;> try first | rfl | (intros; rfl) | exact fun e => ⟨_, rfl⟩
  intro m hm
  simp only [State.jobList, State.withdraw, List.filter_filter]
  congr 1
  funext x
  by_cases hx : x.link = m
  · simp [hx, hm]
  · simp [hx]

/-! ## Rounds and triggers -/

theorem State.setKeys_frame (s : State) (l : Link) (k : KeySet) : RoundFrame l s (s.setKeys l k) := by
  constructor <;> try first | rfl | (intros; rfl) | exact fun e => ⟨_, rfl⟩
  intro m hm; exact State.keySet_setKeys_ne s l m k hm

theorem State.onRenewal_frame (s : State) (l : Link) (f : RenewalContext → RenewalContext) :
    RoundFrame l s (s.onRenewal l f) := by
  constructor <;> try first | rfl | (intros; rfl) | exact fun e => ⟨_, rfl⟩
  intro m hm; exact State.renewal_onRenewal_ne s l m f hm

/-- The end of a round moves nothing but the round of its link (R101). -/
theorem State.failRound_frame (s : State) (l : Link) : RoundFrame l s (s.failRound l) := by
  unfold State.failRound
  split
  · exact .refl l s
  · refine RoundFrame.trans ?_ (State.onRenewal_frame _ l _)
    split
    · exact ((s.occurrence_frame l .renewFail none none).round l).trans (State.setKeys_frame _ l _)
    · exact (s.occurrence_frame l .renewFail none none).round l

theorem State.wornRoot_frame (s : State) (l : Link) : RoundFrame l s (s.wornRoot l) := by
  unfold State.wornRoot
  split <;> first | exact s.failRound_frame l | exact .refl l s

theorem State.chosen_frame (l : Link) (s : State) : RoundFrame l s s.chosen := by
  constructor <;> first | rfl | (intros; rfl) | exact fun e => ⟨_, rfl⟩

/-- A slot released inside a command moves nothing but notices and the open choices (R145, R146). -/
theorem State.serveReleased_frame (l : Link) (s : State) : RoundFrame l s s.serveReleased := by
  unfold State.serveReleased
  split
  · exact .refl l s
  · split
    · exact s.serveOwed_frame.round l
    · split
      · exact (s.chosen_frame l).trans (s.chosen.serveOwed_frame.round l)
      · exact s.chosen_frame l

theorem askFirst_frame (fuel : Nat) (l : Link) (s : State) : RoundFrame l s (askFirst fuel l s) := by
  induction fuel generalizing s with
  | zero => exact .refl l s
  | succ fuel ih =>
    unfold askFirst
    split
    · exact .refl l s
    · split
      · exact s.onFirst_frame l _ (Job.withClaim_link _)
      · exact (s.onFirst_frame l _ (Job.withClaim_link _)).trans (State.raiseCeiling_frame l _ _)
      · exact (((s.removeFirst_frame l).trans (State.serveReleased_frame l _)).trans
          (State.wornRoot_frame _ l)).trans (ih _)

/-- Asking for the counter of a first job moves nothing but the round of its link (R56, R67, R79). -/
theorem State.settleFirst_frame (s : State) (l : Link) : RoundFrame l s (s.settleFirst l) := askFirst_frame _ l s

theorem State.createNext_frame (s : State) (l : Link) : RoundFrame l s (s.createNext l) := by
  unfold State.createNext
  split
  · exact .refl l s
  · constructor <;> try first | rfl | (intros; rfl) | exact fun e => ⟨_, rfl⟩
    intro m hm; exact State.keySet_setKeys_ne s l m _ hm

theorem State.appendOffer_frame (s : State) (l : Link) : RoundFrame l s (s.appendOffer l) := by
  unfold State.appendOffer
  split
  · exact s.append_frame l _ rfl
  · exact .refl l s

theorem State.appendAsk_frame (s : State) (l : Link) : RoundFrame l s (s.appendAsk l) := by
  unfold State.appendAsk
  split
  · exact s.append_frame l _ rfl
  · exact .refl l s

theorem State.requestOffer_frame (s : State) (l : Link) : RoundFrame l s (s.requestOffer l) := by
  unfold State.requestOffer
  split
  · exact (((s.createNext_frame l).trans (State.appendOffer_frame _ l)).trans (State.onRenewal_frame _ l _)).trans
      (State.settleFirst_frame _ l)
  · exact .refl l s

theorem State.retryOffer_frame (s : State) (l : Link) : RoundFrame l s (s.retryOffer l) := by
  unfold State.retryOffer
  split
  · exact ((s.appendOffer_frame l).trans (State.onRenewal_frame _ l _)).trans (State.settleFirst_frame _ l)
  · exact s.onRenewal_frame l _

theorem State.requestAsk_frame (s : State) (l : Link) : RoundFrame l s (s.requestAsk l) := by
  unfold State.requestAsk
  split
  · exact ((s.appendAsk_frame l).trans (State.onRenewal_frame _ l _)).trans (State.settleFirst_frame _ l)
  · exact .refl l s

theorem State.retryAsk_frame (s : State) (l : Link) : RoundFrame l s (s.retryAsk l) := by
  unfold State.retryAsk
  split
  · exact ((s.appendAsk_frame l).trans (State.onRenewal_frame _ l _)).trans (State.settleFirst_frame _ l)
  · exact s.onRenewal_frame l _

theorem State.startRound_frame (s : State) (l : Link) : RoundFrame l s (s.startRound l) := by
  unfold State.startRound
  split
  · exact .refl l s
  · split
    · exact (s.onRenewal_frame l _).trans (State.requestOffer_frame _ l)
    · exact (s.onRenewal_frame l _).trans (State.requestAsk_frame _ l)

/-- A trigger moves nothing but the round of its link (R90, R91, R92). -/
theorem State.trigger_frame (s : State) (l : Link) (reason : Reason) : RoundFrame l s (s.trigger l reason) := by
  unfold State.trigger
  split
  · exact (s.onRenewal_frame l _).trans (State.startRound_frame _ l)
  · exact s.onRenewal_frame l _

/-! ## Outbound traffic -/

theorem State.softCross_frame (s : State) (l : Link) (role : SlotRole) : RoundFrame l s (s.softCross l role) := by
  unfold State.softCross
  split
  · exact .refl l s
  · split
    · exact (s.setKeys_frame l _).trans (State.trigger_frame _ l .wear)
    · exact .refl l s

theorem State.setEntry_frame (s : State) (l : Link) (e : Option LinkEntry) : LinkFrame l s (s.setEntry l e) := by
  constructor <;> try first | rfl | (intros; rfl) | exact fun e => ⟨_, rfl⟩
  intro m hm; exact State.entry_setEntry_ne s l m e hm

theorem State.onEntry_frame (s : State) (l : Link) (f : LinkEntry → LinkEntry) : LinkFrame l s (s.onEntry l f) :=
  s.setEntry_frame l _

theorem State.outboundAccepted_frame (s : State) (l : Link) : LinkFrame l s (s.outboundAccepted l) :=
  (s.onEntry_frame l _).trans (State.onRenewal_frame _ l _).link

theorem State.acceptOutbound_frame (s : State) (l : Link) (k : KeySlot) (n : Nat) (work : SlotBinding → Nat → Work) :
    LinkFrame l s (s.acceptOutbound l k n work) :=
  ((((s.setKeys_frame l _).trans (State.append_frame _ l _ rfl)).link).trans
    (State.outboundAccepted_frame _ l)).trans (State.softCross_frame _ l _).link

theorem State.refuseForWear_frame (s : State) (l : Link) (k : KeySlot) : RoundFrame l s (s.refuseForWear l k) := by
  unfold State.refuseForWear
  dsimp only
  split
  · exact ((s.occurrence_frame l .spent (some k.epoch) none).round l).trans (State.trigger_frame _ l .spent)
  · exact (s.occurrence_frame l .spent (some k.epoch) none).round l

/-- A request for a BEAT or PROOF moves nothing but what its link holds (R65). -/
theorem State.requestTraffic_frame (s : State) (l : Link) (work : SlotBinding → Nat → Work) :
    LinkFrame l s (s.requestTraffic l work) := by
  unfold State.requestTraffic
  split
  · exact .refl l s
  · split
    · exact s.acceptOutbound_frame l _ 0 work
    · exact (s.refuseForWear_frame l _).link
    · exact .refl l s
    · exact .refl l s

theorem State.requestProof_frame (s : State) (l : Link) : LinkFrame l s (s.requestProof l) :=
  s.requestTraffic_frame l .proof

theorem State.requestConfirm_frame (s : State) (l : Link) : LinkFrame l s (s.requestConfirm l) := by
  unfold State.requestConfirm
  split
  · exact ((s.occurrence_frame l .beatSkip none none).round l).link
  · exact s.requestTraffic_frame l .beat
  · exact s.requestTraffic_frame l .beat
  · exact s.requestTraffic_frame l .beat

/-! ## The expiries and requests of a tick -/

theorem State.takeBeatExpiry_frame (s : State) (l : Link) (e : LinkEntry) : LinkFrame l s (s.takeBeatExpiry l e) := by
  unfold State.takeBeatExpiry
  dsimp only
  split
  · exact s.requestTraffic_frame l .beat
  · exact ((s.occurrence_frame l .beatSkip none none).round l).link.trans (State.onEntry_frame _ l _)
  · exact (s.requestTraffic_frame l .beat).trans (State.onEntry_frame _ l _)
  · exact s.onEntry_frame l _

theorem State.takeClaim_frame (s : State) (l : Link) : RoundFrame l s (s.takeClaim l) := by
  unfold State.takeClaim
  dsimp only
  refine RoundFrame.trans (s.onRenewal_frame l fun c => { c with claimDue := false }) ?_
  split
  · exact State.requestOffer_frame _ l
  · exact State.requestAsk_frame _ l
  · exact State.retryOffer_frame _ l
  · exact State.retryAsk_frame _ l
  · exact .refl l _
  · exact .refl l _
  · exact .refl l _

theorem State.expireOffer_frame (s : State) (l : Link) : RoundFrame l s (s.expireOffer l) := by
  unfold State.expireOffer
  split
  · exact .refl l s
  · split
    · split
      · exact (s.onRenewal_frame l _).trans (State.retryOffer_frame _ l)
      · exact (s.onRenewal_frame l _).trans (State.failRound_frame _ l)
    · exact .refl l s

theorem State.expireAsk_frame (s : State) (l : Link) : RoundFrame l s (s.expireAsk l) := by
  unfold State.expireAsk
  split
  · exact .refl l s
  · split
    · split
      · exact (s.onRenewal_frame l _).trans (State.retryAsk_frame _ l)
      · exact (s.onRenewal_frame l _).trans (State.failRound_frame _ l)
    · exact .refl l s

theorem State.expireRest_frame (s : State) (l : Link) : RoundFrame l s (s.expireRest l) := by
  unfold State.expireRest
  split
  · split
    · exact s.startRound_frame l
    · exact s.onRenewal_frame l _
  · exact .refl l s

theorem State.expireRenewal_frame (s : State) (l : Link) : RoundFrame l s (s.expireRenewal l) := by
  unfold State.expireRenewal
  split
  · exact .refl l s
  · split
    · exact (((s.onRenewal_frame l _).trans ((State.occurrence_frame _ l _ _ none).round l)).trans
        (State.onRenewal_frame _ l _)).trans (State.trigger_frame _ l .due)
    · exact .refl l s

theorem State.expireSilence_frame (s : State) (l : Link) : LinkFrame l s (s.expireSilence l) := by
  unfold State.expireSilence
  split
  · exact .refl l s
  · split
    · rename_i e _ _
      have reported := (s.setEntry_frame l (some e.silent)).trans ((State.occurrence_frame _ l .silent none none).round l).link
      dsimp only
      split
      · exact reported.trans (State.trigger_frame _ l .loss).link
      · exact reported
    · exact .refl l s

/-- An event that makes a control request moves nothing but what its link holds. -/
theorem State.takeControlClaim_frame (s : State) (c : ControlClaim) : LinkFrame c.link s (s.takeControlClaim c) := by
  cases c with
  | beat l =>
    change LinkFrame l s (s.expireBeat l)
    unfold State.expireBeat
    split
    · exact .refl l s
    · split
      · exact s.takeBeatExpiry_frame l _
      · exact .refl l s
  | preparing l =>
    change LinkFrame l s (s.takePreparing l)
    unfold State.takePreparing
    split
    · exact (s.takeClaim_frame l).link
    · exact .refl l s
  | asking l =>
    change LinkFrame l s (s.takeAsking l)
    unfold State.takeAsking
    split
    · exact (s.takeClaim_frame l).link
    · exact .refl l s
  | retry l =>
    change LinkFrame l s (s.takeRetry l)
    unfold State.takeRetry
    split
    · exact (s.takeClaim_frame l).link
    · exact .refl l s
  | confirm l =>
    change LinkFrame l s (s.takeConfirm l)
    unfold State.takeConfirm
    split
    · exact (s.onRenewal_frame l _).link.trans (State.requestConfirm_frame _ l)
    · exact .refl l s
  | offerTimer l => exact (s.expireOffer_frame l).link
  | askTimer l => exact (s.expireAsk_frame l).link
  | restTimer l => exact (s.expireRest_frame l).link
  | renewalTimer l => exact (s.expireRenewal_frame l).link
  | silence l => exact s.expireSilence_frame l

/-! ## Contested slots -/

theorem State.chosen_part (s : State) : PartFrame s s.chosen := (s.chosen_frame 0).link.part

theorem State.serveOwed_part (s : State) : PartFrame s s.serveOwed := (s.serveOwed_frame.round 0).link.part

theorem State.serveLowest_part (s : State) : PartFrame s s.serveLowest := by
  unfold State.serveLowest
  split
  · exact .refl s
  · constructor <;> first | rfl | exact fun e => ⟨_, rfl⟩

theorem State.serveOne_part (s : State) (claims : List ControlClaim) (n : Nat) : PartFrame s (s.serveOne claims n) := by
  unfold State.serveOne
  split
  · exact (s.takeControlClaim_frame _).part
  · exact s.serveLowest_part

theorem serveContested_part (fuel : Nat) (s : State) : PartFrame s (serveContested fuel s) := by
  induction fuel generalizing s with
  | zero => exact s.serveOwed_part
  | succ fuel ih =>
    unfold serveContested
    split
    · exact .refl s
    · exact s.serveOwed_part
    · split
      · exact (s.chosen_part.trans (State.serveOne_part _ _ _)).trans (ih _)
      · exact .refl s

/-- What slots left free go to moves nothing but what the links hold (R145, R146). -/
theorem State.serveFreed_part (s : State) : PartFrame s s.serveFreed := serveContested_part _ s

theorem contestSlots_part (l : Link) (request : State → State) (h : ∀ u, PartFrame u (request u)) (fuel : Nat)
    (s : State) : PartFrame s (contestSlots l request fuel s) := by
  induction fuel generalizing s with
  | zero => exact h s
  | succ fuel ih =>
    unfold contestSlots
    dsimp only
    split
    · split
      · exact s.chosen_part.trans (h _)
      · exact (s.chosen_part.trans (State.serveOne_part _ _ _)).trans (ih _)
    · exact h s

/-- A contest moves nothing but what the links hold, where its request does (R146). -/
theorem State.contest_part (s : State) (l : Link) (request : State → State) (h : ∀ u, PartFrame u (request u)) :
    PartFrame s (s.contest l request) := by
  unfold State.contest
  split
  · exact (contestSlots_part l request h _ s).trans (State.serveReleased_frame l _).link.part
  · exact h s

/-! ## Verdicts, promotion and installation -/

theorem State.loseLock_frame (s : State) (l : Link) (e : LinkEntry) : LinkFrame l s (s.loseLock l e) := by
  have lost := (s.setEntry_frame l (some { e with state := .hunt, goodCount := 0, badCount := 0 })).trans
    ((State.occurrence_frame _ l .loss none none).round l).link
  unfold State.loseLock
  dsimp only
  split
  · exact lost.trans (State.trigger_frame _ l .loss).link
  · exact lost

theorem State.goodVerdict_frame (s : State) (l : Link) : LinkFrame l s (s.goodVerdict l) := s.onEntry_frame l _

/-- A bad verdict moves nothing but what its link holds (R123). -/
theorem State.badVerdict_frame (s : State) (l : Link) : LinkFrame l s (s.badVerdict l) := by
  unfold State.badVerdict
  split
  · exact .refl l s
  · split
    · exact s.loseLock_frame l _
    · exact s.setEntry_frame l _

theorem State.loseCurrent_frame (s : State) (l : Link) : LinkFrame l s (s.loseCurrent l) :=
  (s.onEntry_frame l _).trans (State.onRenewal_frame _ l _).link

/-- A promotion moves nothing but what the links hold (R24, R25). -/
theorem State.promote_part (s : State) (l : Link) (e : LinkEntry) : PartFrame s (s.promote l e) := by
  have moved := (s.setKeys_frame l ((s.keySet l).promote e.policy.graceTicks)).link.trans
    (State.setEntry_frame _ l (some (e.promoted (s.outboundSlot l).isSome)))
  unfold State.promote
  dsimp only
  split
  · exact (moved.trans (State.onRenewal_frame _ l _).link).part
  · refine PartFrame.trans ?_ (State.contest_part _ l _ fun u => (u.requestConfirm_frame l).part)
    exact (moved.trans ((State.onRenewal_frame _ l _).trans (State.withdraw_frame _ l Work.isOffer)).link).part

theorem State.installOffer_frame (s : State) (l : Link) (e : LinkEntry) (t : OfferText) :
    LinkFrame l s (s.installOffer l e t) := by
  unfold State.installOffer
  dsimp only
  have lost : ∀ (b : Bool) (u : State), LinkFrame l u (if b = true then u.loseCurrent l else u) := by
    intro b u
    split
    · exact u.loseCurrent_frame l
    · exact .refl l u
  split
  · exact (s.setKeys_frame l _).link.trans (lost _ _)
  · split
    · exact ((s.setKeys_frame l _).link.trans (lost _ _)).trans (State.onEntry_frame _ l _)
    · exact (s.setKeys_frame l _).link.trans (lost _ _)

theorem State.validOffer_part (s : State) (l : Link) (t : OfferText) : PartFrame s (s.validOffer l t) := by
  unfold State.validOffer
  split
  · exact .refl s
  · split
    · exact .refl s
    · refine PartFrame.trans ?_ (State.contest_part _ l _ fun u => (u.requestProof_frame l).part)
      exact ((s.installOffer_frame l _ t).trans ((State.onRenewal_frame _ l _).trans
        (State.withdraw_frame _ l Work.isAsk)).link).part

/-- What a HELD record does at its release moves nothing but what the links hold (R64). -/
theorem State.releaseActs_part (s : State) (l : Link) (content : RootContent) : PartFrame s (s.releaseActs l content) := by
  cases content with
  | offer t => exact s.validOffer_part l t
  | ask reason => exact ((s.onRenewal_frame l _).trans (State.trigger_frame _ l reason)).link.part

theorem State.place_frame (l : Link) (s : State) (f : OutFrame) : RoundFrame l s (s.place f) := by
  constructor <;> first | rfl | (intros; rfl) | exact fun e => ⟨_, rfl⟩

theorem State.release_part (s : State) (l : Link) (tag : Byte) (record : List Byte) (content : RootContent) :
    PartFrame s (s.release l tag record content) :=
  (s.releaseActs_part l content).trans
    (((State.place_frame l _ _).trans (State.removeFirst_frame _ l)).trans (State.settleFirst_frame _ l)).link.part

end Sys2Proof.Machine
end

