-- ==== Sys2Proof/Laws/Commands.lean ====
section
/-! SUPPORT. The small lemmas every command's proof needs: numbers as bytes, the tests of room, a request taken from the
head of the queue, counts over a table, the first job of a link and the job of a lane, the owed set served. -/

namespace Sys2Proof.Machine

open Sys2Proof

/-! ## Numbers as bytes (section 4.1) -/

theorem beNat_append (a b : List Byte) : beNat (a ++ b) = beNat a * 256 ^ b.length + beNat b := by
  have go : ∀ (b : List Byte) (n : Nat), b.foldl (fun m x => m * 256 + x.toNat) n = n * 256 ^ b.length + beNat b := by
    intro b
    induction b with
    | nil => intro n; simp [beNat]
    | cons x xs ih =>
      intro n
      have h := ih x.toNat
      simp only [List.foldl_cons, List.length_cons, ih (n * 256 + x.toNat), beNat, Nat.zero_mul, Nat.zero_add] at h ⊢
      rw [h]; ring
  unfold beNat
  rw [List.foldl_append]
  exact go b _

theorem beNat_beBytes (w n : Nat) : beNat (beBytes w n) = n % 256 ^ w := by
  induction w with
  | zero => simp [beBytes, beNat, Nat.mod_one]
  | succ w ih =>
    rw [beBytes, ← List.singleton_append, beNat_append, ih, beBytes_length]
    have h : beNat [BitVec.ofNat 8 (n / 256 ^ w)] = n / 256 ^ w % 256 := by simp [beNat]
    rw [h, Nat.pow_succ, Nat.mod_mul]
    ring

theorem beNat_beBytes_of_lt {w n : Nat} (h : n < 256 ^ w) : beNat (beBytes w n) = n := by
  rw [beNat_beBytes, Nat.mod_eq_of_lt h]

theorem beNat_lt (b : List Byte) : beNat b < 256 ^ b.length := by
  induction b using List.reverseRecOn with
  | nil => simp [beNat]
  | append_singleton xs x ih =>
    rw [beNat_append]
    have hx : beNat [x] = x.toNat := by simp [beNat]
    have := x.isLt
    simp only [List.length_append, List.length_singleton, hx, Nat.pow_succ]
    omega

theorem beBytes_beNat (b : List Byte) : beBytes b.length (beNat b) = b := by
  have go : ∀ (w : Nat) (n k : Nat), beBytes w (k * 256 ^ w + n) = beBytes w n := by
    intro w
    induction w with
    | zero => intro n k; rfl
    | succ w ih =>
      intro n k
      have e : k * 256 ^ (w + 1) + n = k * 256 * 256 ^ w + n := by rw [Nat.pow_succ]; ring
      rw [beBytes, beBytes, e, ih]
      congr 1
      apply BitVec.eq_of_toNat_eq
      rw [BitVec.toNat_ofNat, BitVec.toNat_ofNat, Nat.add_comm, Nat.add_mul_div_right _ _ (Nat.pow_pos (by omega))]
      omega
  induction b with
  | nil => rfl
  | cons x xs ih =>
    have h : beNat (x :: xs) = x.toNat * 256 ^ xs.length + beNat xs := by
      rw [← List.singleton_append, beNat_append]; simp [beNat]
    rw [List.length_cons, beBytes, h, go, ih]
    congr 1
    apply BitVec.eq_of_toNat_eq
    rw [BitVec.toNat_ofNat, Nat.add_comm, Nat.add_mul_div_right _ _ (Nat.pow_pos (by omega)),
      Nat.div_eq_of_lt (beNat_lt xs)]
    have := x.isLt
    simp
    omega

/-- The byte of a link or entry number names that number again (R170). -/
@[simp] theorem numberOf_byteOf (l : Fin 64) : numberOf (byteOf l.val) = some l := by
  have h : (byteOf l.val).toNat = l.val := by simp [byteOf]; omega
  simp [numberOf, h]

theorem numberOf_eq_none {b : Byte} : numberOf b = none ↔ 63 < b.toNat := by
  unfold numberOf; split <;> simp <;> omega

theorem numberOf_eq_some {b : Byte} {l : Fin 64} : numberOf b = some l ↔ l.val = b.toNat := by
  unfold numberOf
  split
  · simp [Fin.ext_iff, eq_comm]
  · simp; omega

/-! ## Room -/

theorem State.ready_iff (s : State) : s.ready = true ↔ s.requests.length < 16 ∧ s.requestOwnedInUse < 32 := by
  simp [State.ready]

theorem State.unsolicitedFree_iff (s : State) : s.unsolicitedFree = true ↔ s.unsolicitedInUse < 16 := by
  simp [State.unsolicitedFree]

theorem State.controlRoom_iff (s : State) :
    s.controlRoom = true ↔ s.pool.length < 32 ∧ s.unsolicitedInUse < 16 := by
  simp [State.controlRoom, State.unsolicitedFree_iff]

theorem State.hostRoom_iff (s : State) : s.hostRoom = true ↔ s.hostJobs < 28 ∧ s.pool.length < 32 := by
  simp [State.hostRoom]

/-! ## Requests -/

/-- The taking of a request from the head of the queue (R161). -/
theorem takes_next {kind : Byte} {f : Request → State → State} {s : State} {r : Request} {rest : List Request}
    (h : s.Takes r rest) (k : r.kind = kind) :
    act (takeRequest kind f) s = .next (f r { s with requests := rest }) := by
  simp [act, takeRequest, h.1, h.2, k]

theorem act_next {f : State → State} {s : State} (h : s.operating = true) : act f s = .next (f s) := by
  simp [act, h]

theorem act_held {f : State → State} {s : State} (h : s.powered = false ∨ s.resetLow = true) : act f s = .next s := by
  rcases h with h | h <;> simp [act, State.operating, State.startingUp, h]

/-- A command that meets a starting part falls within the start-up or finds it ended (R168). -/
theorem act_starting {f : State → State} {s : State} (h : s.startingUp = true) :
    act f s = .next (if s.choice 2 = 0 then s.chosen else f { s.chosen with starting := false }) := by
  have held : s.operating = false := by
    simp only [State.startingUp, Bool.and_eq_true] at h
    simp [State.operating, h.2]
  simp [act, held, h]

/-- Every command but those of the supply and the reset input is taken by an operating part alone (R168). -/
theorem exec_act {c : Instr} (assert : c ≠ .resetAssert) (release : c ≠ .resetRelease) (on : c ≠ .powerOn)
    (loss : c ≠ .powerLoss) : ∃ f : State → State, ∀ s, exec c s = act f s := by
  cases c <;> first | exact absurd rfl assert | exact absurd rfl release | exact absurd rfl on |
    exact absurd rfl loss | exact ⟨_, fun _ => rfl⟩

theorem State.attachedLink_byteOf {s : State} {l : Link} {e : LinkEntry} (h : s.entry l = some e) :
    s.attachedLink (byteOf l.val) = some (l, e) := by
  simp [State.attachedLink, h]

theorem State.attachedLink_none {s : State} {b : Byte} (h : s.Unattached b) : s.attachedLink b = none := by
  unfold State.attachedLink
  cases hb : numberOf b with
  | none => rfl
  | some l => simp [h l (numberOf_eq_some.mp hb)]

/-! ## Tables -/

theorem Table.count_eq {α : Type} (p : α → Bool) (t : Table α) :
    t.count p = (List.finRange 64).countP fun i => p (t.look i) := by
  have h : t.toList = (List.finRange 64).map t.look := by
    apply List.ext_getElem
    · simp
    · intro i h1 h2; simp [Table.look, Vector.get_eq_getElem]
  rw [Table.count, h, List.countP_map]
  rfl

/-! ## The first job of a link and the job of a lane -/

theorem find_of_split {α : Type} {p : α → Bool} {a : List α} {x : α} {b : List α} (hx : p x = true)
    (ha : ∀ y ∈ a, p y = false) : (a ++ x :: b).find? p = some x := by
  rw [List.find?_append, List.find?_eq_none.mpr (fun y hy => by simp [ha y hy])]
  simp [hx]

theorem eraseP_of_split {α : Type} {p : α → Bool} {a : List α} {x : α} {b : List α} (hx : p x = true)
    (ha : ∀ y ∈ a, p y = false) : (a ++ x :: b).eraseP p = a ++ b := by
  rw [List.eraseP_append_right _ (fun y hy => by simp [ha y hy])]
  simp [hx]

theorem changeFirst_of_split {α : Type} {p : α → Bool} {f : α → α} {a : List α} {x : α} {b : List α} (hx : p x = true)
    (ha : ∀ y ∈ a, p y = false) : changeFirst p f (a ++ x :: b) = a ++ f x :: b := by
  induction a with
  | nil => simp [changeFirst, hx]
  | cons y ys ih =>
    have hy := ha y (by simp)
    simp [changeFirst, hy, ih fun z hz => ha z (by simp [hz])]

section First

variable {s : State} {l : Link} {before after : List Job} {j : Job}

theorem State.First.firstJob (h : s.First l before j after) : s.firstJob l = some j := by
  rw [State.firstJob, h.1]
  exact find_of_split (by simp [h.2.1]) fun x hx => by simp [h.2.2 x hx]

theorem State.First.onFirst (h : s.First l before j after) (f : Job → Job) :
    s.onFirst l f = { s with pool := before ++ f j :: after } := by
  rw [State.onFirst, h.1]
  congr 1
  exact changeFirst_of_split (by simp [h.2.1]) fun x hx => by simp [h.2.2 x hx]

theorem State.First.removeFirst (h : s.First l before j after) :
    s.removeFirst l = { s with pool := before ++ after } := by
  rw [State.removeFirst, h.1]
  congr 1
  exact eraseP_of_split (by simp [h.2.1]) fun x hx => by simp [h.2.2 x hx]

theorem State.firstJob_eq_none (h : ∀ x ∈ s.pool, x.link ≠ l) : s.firstJob l = none := by
  rw [State.firstJob, List.find?_eq_none]
  intro x hx
  simp [h x hx]

/-- The first job of a link stands somewhere in the pool. -/
theorem State.first_of_firstJob (h : s.firstJob l = some j) : ∃ before after, s.First l before j after := by
  obtain ⟨hj, before, after, hp, hb⟩ := List.find?_eq_some_iff_append.mp h
  exact ⟨before, after, hp, by simpa using hj, fun x hx => by simpa using hb x hx⟩

end First

section InLane

variable {s : State} {lane : Lane} {before after : List Job} {j : Job}

theorem State.InLane.laneJob (h : s.InLane lane before j after) : s.laneJob lane = some j := by
  rw [State.laneJob, h.1]
  exact find_of_split (by simp [Job.isIn, h.2.1]) fun x hx => by simp [Job.isIn, h.2.2 x hx]

theorem State.InLane.removeLane (h : s.InLane lane before j after) :
    s.removeLane lane = { s with pool := before ++ after } := by
  rw [State.removeLane, h.1]
  congr 1
  exact eraseP_of_split (by simp [Job.isIn, h.2.1]) fun x hx => by simp [Job.isIn, h.2.2 x hx]

theorem State.laneJob_eq_none (h : ∀ x ∈ s.pool, x.state ≠ .inLane lane) : s.laneJob lane = none := by
  rw [State.laneJob, List.find?_eq_none]
  intro x hx
  simp [Job.isIn, h x hx]

/-- The job of a lane stands somewhere in the pool. -/
theorem State.inLane_of_laneJob (h : s.laneJob lane = some j) : ∃ before after, s.InLane lane before j after := by
  obtain ⟨hj, before, after, hp, hb⟩ := List.find?_eq_some_iff_append.mp h
  exact ⟨before, after, hp, by simpa [Job.isIn] using hj, fun x hx => by simpa [Job.isIn] using hb x hx⟩

end InLane

/-! ## The owed set -/

theorem State.serveOwed_nil {s : State} (h : s.owed = []) : s.serveOwed = s := by
  simp [State.serveOwed, serveOwedList, h]

/-- The events that are due are those that `isDue` says are. -/
theorem State.mem_dueClaims {s : State} {c : ControlClaim} : c ∈ s.dueClaims ↔ s.isDue c = true := by
  simp only [State.dueClaims, List.mem_flatMap, List.mem_filter]
  refine ⟨fun ⟨_, _, _, h⟩ => h, fun h => ⟨c.link, List.mem_finRange _, ?_, h⟩⟩
  cases c <;> simp [ControlClaim.ofLink, ControlClaim.link]

theorem State.Quiet.dueClaims {s : State} (h : s.Quiet) : s.dueClaims = [] := by
  rw [List.eq_nil_iff_forall_not_mem]
  intro c hc
  obtain ⟨timers, claim, confirm, step, renewal⟩ := h c.link
  rw [State.mem_dueClaims] at hc
  cases c <;> simp only [ControlClaim.link] at timers claim confirm step renewal <;>
    simp [State.isDue, State.claimsIn, State.retryDue, State.confirmDue, State.stepExpired, claim, confirm, step,
      renewal] at hc
  · rw [Option.any_eq_true] at hc
    obtain ⟨e, he, due⟩ := hc
    exact (timers e he).1 (of_decide_eq_true due)
  · rw [Option.any_eq_true] at hc
    obtain ⟨-, e, he, due⟩ := hc
    simp only [Bool.and_eq_true] at due
    exact (timers e he).2 (of_decide_eq_true due.1.1)

theorem State.serveFreed_nil {s : State} (h : s.owed = []) : s.serveFreed = s := by
  simp [State.serveFreed, serveContested, h]

/-- Where no control request is due, freed slots go to the owed set (R145). -/
theorem State.serveFreed_quiet {s : State} (h : s.dueClaims = []) : s.serveFreed = s.serveOwed := by
  unfold State.serveFreed serveContested
  cases ho : s.owed with
  | nil => simp [State.serveOwed_nil ho]
  | cons l rest => simp [h]

/-- The lowest owed link takes a free slot, and the others what is left (R145). -/
theorem State.serveOwed_cons {s : State} {l : Link} {rest : List Link} (h : s.owed = l :: rest) :
    s.serveOwed =
      if s.unsolicitedFree then ({ s with owed := rest }.placeNotice l).serveOwed else s := by
  simp [State.serveOwed, h, serveOwedList, State.placeNotice, State.onFaults, State.setFaults, State.place]

/-! ## The record cipher -/

/-- Deciphering undoes enciphering (R5). -/
theorem decipherBytes_encipherBytes (key : Key) (nonce : Nonce) (p : List Byte) :
    decipherBytes key nonce (encipherBytes key nonce p) = p := by
  have cast : ∀ (b : List Byte) (m : Nat) (h : b.length = m),
      decipherBytes key nonce b = ((Config.cipher m key nonce).symm ⟨b.toArray, by simp [h]⟩).toList := by
    intro b m h
    subst h
    rfl
  rw [cast _ _ (encipherBytes_length key nonce p)]
  have enciphered : (⟨(encipherBytes key nonce p).toArray, by simp⟩ : Vector Byte p.length) =
      Config.cipher p.length key nonce ⟨p.toArray, by simp⟩ := by
    apply Vector.toList_inj.mp
    simp [encipherBytes]
  simp [enciphered]

/-- A protected record under a header of 12 bytes has its header, its body and its tag at their places (R1). -/
theorem protect_parts (key : Key) (nonce : Nonce) (header p : List Byte) (h : header.length = 12) :
    (protect key nonce header p).length = 28 + p.length ∧ (protect key nonce header p).take 12 = header ∧
    field (protect key nonce header p) 12 p.length = encipherBytes key nonce p ∧
    (protect key nonce header p).drop (12 + p.length) = tagBytes key nonce header (encipherBytes key nonce p) := by
  have tag : (tagBytes key nonce header (encipherBytes key nonce p)).length = 16 := by simp [tagBytes]
  refine ⟨?_, ?_, ?_, ?_⟩
  · simp [protect, h, tag]; omega
  · rw [protect, List.append_assoc, ← h, List.take_left]
  · rw [protect, field, List.append_assoc, ← h, List.drop_left]
    exact List.take_left' (by simp)
  · rw [protect]
    exact List.drop_left' (by simp [h])

/-- What a genuine protection is, to the meaning and to the statements (R5). -/
theorem State.genuine_iff (s : State) (p : Protection) : isGenuine s.protections p = true ↔ s.Genuine p := by
  simp [isGenuine, State.Genuine, imp_iff_not_or]

/-- A sealed text that verifies gives its payload, and one that does not gives none (R5). -/
theorem State.openSealed_eq (s : State) (key : Key) (nonce : Nonce) (header body tag : List Byte) :
    (s.Opens key nonce header body tag →
      openSealed s.protections key nonce header body tag = some (decipherBytes key nonce body)) ∧
    (¬ s.Opens key nonce header body tag → openSealed s.protections key nonce header body tag = none) := by
  constructor <;> intro h <;> simp only [State.Opens, ← s.genuine_iff] at h <;> simp [openSealed, h]

/-- A record this part has protected, and nothing else under its tag, verifies, and its body deciphers to the payload
(R5). -/
theorem protect_verifies (s : State) (key : Key) (nonce : Nonce) (header p : List Byte) (h : header.length = 12)
    (made : s.Genuine (protectionOf key nonce header p)) :
    s.Verifies key nonce (protect key nonce header p) ∧
    decipherBytes key nonce
      (field (protect key nonce header p) 12 ((protect key nonce header p).length - 28)) = p := by
  obtain ⟨length, head, body, tag⟩ := protect_parts key nonce header p h
  have long : (protect key nonce header p).length - 28 = p.length := by omega
  have rest : (protect key nonce header p).length - 16 = 12 + p.length := by omega
  refine ⟨?_, ?_⟩
  · rw [State.Verifies, long, rest, head, body, tag]
    exact ⟨rfl, made⟩
  · rw [long, body, decipherBytes_encipherBytes]

end Sys2Proof.Machine
end

