-- ==== Sys2Proof/Tests/Slice0.lean ====
section
/-! SUPPORT. Tests of the model on the manual's worked examples, the smoke test of `Instr.wellFormed`, and one witness for
every statement of the provers that has hypotheses: a concrete part that meets them, clause by clause. -/

namespace Sys2Proof.Tests

open Sys2Proof Sys2Proof.Machine

/-! ## Concrete parts -/

/-- A key slot of this epoch and wear limit that has protected this many blocks. -/
def slotOf (epoch wearLimit protectedBlocks : Nat) : KeySlot :=
  { epoch := epoch, key := 7#256, salt := 9#32, wearLimit := wearLimit, softThreshold := softThreshold wearLimit 6,
    outSequence := protectedBlocks / 2, protectedBlocks := protectedBlocks, openedBlocks := 0, softCrossed := false,
    window := { high := 0, seen := [] }, creationTick := 0 }

/-- A key set with these slots. -/
def keysOf (next current previous : Option KeySlot) : KeySet :=
  { next := next, current := current, previous := previous, grace := .stopped }

/-- A renewal context in this state. -/
def contextOf (state : RenewalState) : RenewalContext := { RenewalContext.initial with state := state }

/-- An attached link's entry. -/
def linkOf (role : Role) (state : Supervision) : LinkEntry :=
  { state := state, rootEntry := 5, shopNumber := 0x2A#32, role := role, policy := Policy.default, goodCount := 0,
    badCount := 0, beatTimer := .stopped, silenceTimer := .stopped }

/-- An occupied root entry. -/
def rootOf (role : Role) (bound : Option Link) : RootEntry :=
  { stored := { contents := some { shopNumber := 0x2A#32, role := role, key := 11#256 }, ceiling := 16, inCounter := 0 },
    contents := some { shopNumber := 0x2A#32, role := role, key := 11#256 }, ceiling := 16, outCounter := 0,
    inCounter := 0, bound := bound }

/-- A part with link 3 attached to root entry 5. -/
def attached (e : LinkEntry) (keys : KeySet) (c : RenewalContext) : State :=
  { State.reset with
    links := State.reset.links.put 3 (some e)
    roots := State.reset.roots.put 5 (rootOf e.role (some 3))
    keys := State.reset.keys.put 3 keys
    renewals := State.reset.renewals.put 3 c }

/-- A part whose root entry 5 is occupied and bound to no link. -/
def loaded : State := { State.reset with roots := State.reset.roots.put 5 (rootOf .hub none) }

/-- A hub's link 3, UP under a CURRENT of epoch 7. -/
def hubUp : State := attached (linkOf .hub .up) (keysOf none (some (slotOf 7 20000 0)) none) RenewalContext.initial

/-- A shop's link 3, KEYLESS and waiting for its OFFER. -/
def shopAsked : State := attached (linkOf .shop .keyless) (keysOf none none none) (contextOf .asked)

/-- A request with this kind and body. -/
def request (kind : Byte) (body : List Byte) : Request := { tag := 0x40, kind := kind, body := body }

/-- The part with this request at the head of its queue. -/
def asked (kind : Byte) (body : List Byte) (s : State) : State := { s with requests := [request kind body] }

/-- A job of link 3. -/
def jobOf (work : Work) (state : JobState) : Job := { link := 3, work := work, state := state }

/-- The part with this one job. -/
def working (j : Job) (s : State) : State := { s with pool := [j] }

/-- The part that answered a command. -/
def after : Host.Outcome State Fault Refusal → State
  | .next s => s
  | .fault _ => State.reset
  | .refused _ => State.reset

/-- The part whose only protection this is. -/
def made (p : Protection) (s : State) : State := { s with protections := [p] }

theorem genuine_made (p : Protection) (s : State) : (made p s).Genuine p :=
  ⟨.inr (List.mem_singleton_self p), fun _ hx _ => List.mem_singleton.mp hx⟩

theorem takes_asked (kind : Byte) (body : List Byte) (s : State) (h : s.operating = true) :
    (asked kind body s).Takes (request kind body) [] := ⟨h, rfl⟩

theorem first_working (j : Job) (s : State) (h : j.link = 3) : (working j s).First 3 [] j [] :=
  ⟨rfl, h, by simp⟩

theorem inLane_working (work : Work) (lane : Lane) (s : State) :
    (working (jobOf work (.inLane lane)) s).InLane lane [] (jobOf work (.inLane lane)) [] :=
  ⟨rfl, rfl, by simp⟩

/-! ## Well-formedness (R157, R160) -/

theorem test_empty_arrival_refused :
    (Instr.frameArrival [0xA6]).wellFormed = false ∧ (Instr.frameArrival []).wellFormed = false := by decide

theorem test_arrival_under_another_lead_byte_refused : (Instr.frameArrival [0x59, 0xC3]).wellFormed = false := by decide

theorem test_write_arrival_admitted : (Instr.frameArrival [0xA6, 0xC3]).wellFormed = true := by decide

/-! ## Chapter 3: the table of R36, the table of R37, the two worked cases -/

theorem test_blocks : [0, 1, 16, 17, 64, 100, 200, 300, 1024].map blocks = [2, 3, 3, 4, 6, 9, 15, 21, 66] := by decide

theorem test_thresholds :
    softThreshold 4096 1 = 512 ∧ softThreshold 4097 7 = 3584 ∧ softThreshold 20000 6 = 15000 ∧
    softThreshold 4294967295 6 = 3221225471 ∧ softThreshold 4294967295 7 = 3758096383 := by decide

/-- The charge that crosses the threshold of 15,000 sets the mark and begins a round (R38, R43). -/
theorem test_encipher_crosses :
    let s := attached (linkOf .hub .up) (keysOf none (some (slotOf 7 20000 14990)) none) RenewalContext.initial
    let t := after (exec .encipher (asked 0x30 (3 :: List.replicate 300 0) s))
    (t.keySet 3).current.map (fun k => (k.protectedBlocks, k.softCrossed)) = some (15011, true) ∧
    (t.renewal 3).lastReason = some .wear ∧ (t.renewal 3).state = .offered := by decide +kernel

/-- The refusal for wear reports SPENT, kind 9, answers SPENT and charges nothing (R40). -/
theorem test_encipher_spent :
    let s := attached (linkOf .hub .up) (keysOf none (some (slotOf 7 20000 19991)) none) (contextOf .offered)
    let t := after (exec .encipher (asked 0x30 (3 :: List.replicate 200 0) s))
    (t.keySet 3).current.map (·.protectedBlocks) = some 19991 ∧
    t.output = [noticeOf 3 0x200#13 1, answerOf (request 0x30 (3 :: List.replicate 200 0)) [0x1A, 3]] ∧
    (t.renewal 3).lastReason = none := by decide +kernel

theorem test_window :
    let w : Window := { high := 100, seen := [97, 98, 100] }
    let w99 := w.accept 99
    let w37 := w99.accept 37
    let w105 := w37.accept 105
    w.judge 99 = .accepted ∧ w99.judge 100 = .duplicate ∧ w99.judge 37 = .accepted ∧ w37.judge 36 = .late ∧
    w105 = { high := 105, seen := [97, 98, 99, 100, 105] } ∧ w105.judge 37 = .late ∧
    w105.accept 200 = { high := 200, seen := [200] } := by decide

/-! ## Chapters 4 to 9: worked examples -/

/-- The first grant after a restart goes to the lowest-numbered link (R58). -/
theorem test_first_grant :
    let s := { hubUp with pool := [{ jobOf (.beat { role := .current, epoch := 7, key := 7#256, salt := 9#32 } 1) .waiting with
      link := 40 }, jobOf (.beat { role := .current, epoch := 7, key := 7#256, salt := 9#32 } 1) .waiting] }
    (after (exec (.grant .a) s)).pointer = 3 := by decide +kernel

/-- COUNTER-SET B, source REPLAY: before 3, after REPLAY, 0 (R154's table). -/
theorem test_counter_set :
    let s := { hubUp with faults := hubUp.faults.put 3 { FaultRecord.initial with
      counterA := { source := .tag, value := 19 }, counterB := { source := .epoch, value := 3 } } }
    (after (exec .counterSet (asked 0x43 [3, 1, 1, 1] s))).output =
      [answerOf (request 0x43 [3, 1, 1, 1]) [0x00, 3, 1, 0, 3, 1, 0, 0]] := by decide +kernel

/-- A HELLO clears FRESH and reports cause, tick and roots (R164). -/
theorem test_hello_clears_fresh :
    (after (exec .hello (asked 0x01 [] loaded))).fresh = false ∧
    (after (exec .hello (asked 0x01 [0x00] loaded))).fresh = true := by decide +kernel

/-- Clamping: 3 to the lower bound 10, 20 to the upper bound 15, beat_ticks 0 as it is, and the numbers reported (R116). -/
theorem test_clamped :
    let items := [(3, 3), (1, 20), (4, 0), (4, 5), (6, 4096)]
    clampedFields items = [1, 3] ∧ (Policy.default.writeAll [(3, 3), (1, 20), (4, 0)]).silenceTicks = 10 ∧
    (Policy.default.writeAll [(3, 3), (1, 20), (4, 0)]).lockIn = 15 ∧
    (Policy.default.writeAll [(3, 3), (1, 20), (4, 0)]).beatTicks = 0 := by decide

/-- DUE and BEAT-SKIP are not enabled at start, every other kind is (R138). -/
theorem test_start_mask : FaultKind.all.map FaultSet.startMask.has =
    [true, true, true, true, true, true, true, false, true, true, true, true, false] := by decide

/-- A tick at 4,294,967,295 wraps to 0, and a grace timer of 1 is due (R26, R167). -/
theorem test_tick_wraps :
    let s := { hubUp with tickCount := 4294967295, keys := hubUp.keys.put 3 { KeySet.empty with grace := .running 1 } }
    (after (exec .tick s)).tickCount = 0 ∧ ((after (exec .tick s)).keySet 3).grace = .expiring := by decide +kernel

/-! ## Witnesses: the machine and its restarts -/

/-- A part whose reset input is held low. -/
def held : State := { State.reset with resetLow := true }

/-- A part without its supply. -/
def off : State := { State.reset with powered := false }

theorem witness_StepRunsFrontCommand :
    ({ State.reset with pending := [.tick, .hello] } : State).pending = .tick :: [.hello] ∧ State.reset.pending = [] := by
  decide

/-- A part whose supply is in its range and whose start-up has not ended. -/
def starting : State := { State.reset with starting := true }

/-- A starting part shows 0x00, and without a command its start-up ends (R168). -/
theorem test_start_up :
    starting.statusByte = 0#8 ∧ (after (step starting)).statusByte = 5#8 ∧
    (after (exec .powerOn off)).startingUp = true := by decide

theorem witness_HeldPart :
    (starting.powered = true ∧ starting.resetLow = false ∧ starting.starting = true) ∧
    (held.resetLow = true ∧ off.powered = false ∧ Instr.tick ≠ .resetAssert ∧ Instr.tick ≠ .resetRelease ∧
      Instr.tick ≠ .powerOn ∧ Instr.tick ≠ .powerLoss) ∧
    State.reset.powered = true ∧ off.powered = false ∧ { off with resetLow := true }.powered = false ∧
    { off with resetLow := true }.resetLow = true ∧ State.reset.resetLow = false := by decide

theorem witness_RestartLeaves :
    State.reset.operating = true ∧ (held.resetLow = true ∧ held.powered = true) ∧ State.reset.powered = true := by decide

/-! ## Witnesses: the message port -/

/-- A part whose request queue is full, and one with a free entry and slot left. -/
def queued (n : Nat) : State := { State.reset with requests := List.replicate n (request 0x02 []) }

/-- A part with this many unread replies. -/
def unread (n : Nat) : State := { State.reset with output := List.replicate n (replyOf 0x40 0x82 [0x10]) }

theorem witness_FrameArrivalJudged :
    (State.reset.operating = true ∧ [0x00#8] ≠ [] ∧ 0x59#8 ≠ 0xA6 ∧ ∀ r, ¬ FrameHolds [0x00#8] r) ∧
    (FrameHolds (frameBytes 0x40 0x03 []) (request 0x03 []) ∧ frameBytes 0x40 0x03 [] ≠ [] ∧
      (request 0x03 []).kind = 0x03) ∧
    (FrameHolds (frameBytes 0x40 0x01 []) (request 0x01 []) ∧ (request 0x01 []).kind ≠ 0x03 ∧
      (queued 16).operating = true ∧ 16 ≤ (queued 16).requests.length ∧ (unread 32).operating = true ∧
      32 ≤ (unread 32).requestOwnedInUse) ∧
    (queued 15).requests.length < 16 ∧ (queued 15).requestOwnedInUse < 32 ∧ (unread 31).requests.length < 16 ∧
    (unread 31).requestOwnedInUse < 32 :=
  ⟨⟨rfl, by decide, by decide, fun r h => by simp [FrameHolds, frameBytes] at h⟩, ⟨⟨by decide, rfl⟩, by decide, rfl⟩,
    ⟨⟨by decide, rfl⟩, by decide⟩, by decide⟩

theorem witness_FrameRoundTrip :
    (request 0x31 (List.replicate 1093 0)).body.length ≤ 1093 ∧
    parseFrame (frameBytes 0x40 0x02 []) = some (request 0x02 []) := by decide +kernel

/-- A part whose sixteen unsolicited slots are filled, link 3 owed a NOTICE, and the first frame read out. -/
def crowded : State :=
  { State.reset with
    output := List.replicate 16 (noticeOf 5 0x001#13 1)
    owed := [3]
    reading := some { bytes := (noticeOf 5 0x001#13 1).bytes, isHead := true } }

theorem quiet_of_reset (s : State) (hl : s.links = State.reset.links) (hr : s.renewals = State.reset.renewals) :
    s.Quiet := by
  intro l
  simp [State.entry, State.renewal, hl, hr, State.reset, RenewalContext.initial]

theorem witness_ReadTransactions :
    (State.reset.operating = true ∧ State.reset.output = [] ∧ State.reset.reading = none) ∧
    (unread 1).output = replyOf 0x40 0x82 [0x10] :: [] ∧
    (let s : State := { unread 1 with reading := some { bytes := (replyOf 0x40 0x82 [0x10]).bytes, isHead := true } }
     s.operating = true ∧ ∃ r, s.reading = some r ∧ r.isHead = true ∧ 7 < r.bytes.length ∧ r.bytes.length ≤ 8 ∧
      s.output = replyOf 0x40 0x82 [0x10] :: [] ∧ (replyOf 0x40 0x82 [0x10]).share = .requestOwned) ∧
    (crowded.operating = true ∧ ∃ r, crowded.reading = some r ∧ r.isHead = true ∧ r.bytes.length ≤ 12 ∧
      crowded.output = noticeOf 5 0x001#13 1 :: List.replicate 15 (noticeOf 5 0x001#13 1) ∧
      (noticeOf 5 0x001#13 1).share = .unsolicited ∧ crowded.owed = 3 :: [] ∧ crowded.Quiet ∧
      crowded.unsolicitedInUse = 16) :=
  ⟨by decide, rfl, ⟨rfl, _, rfl, by decide⟩,
    ⟨rfl, _, rfl, by decide, by decide, rfl, rfl, rfl, quiet_of_reset _ rfl rfl, by decide⟩⟩

theorem witness_PortOutputs :
    (State.reset.operating = true ∧ State.reset.reading = none ∧ State.reset.output = []) ∧
    (crowded.operating = true ∧ ∃ x, crowded.reading = some x ∧ x.bytes[0]? = some 0xC3 ∧ x.bytes.length ≤ 12) ∧
    (unread 1).operating = true ∧ (unread 1).output = replyOf 0x40 0x82 [0x10] :: [] :=
  ⟨by decide, ⟨rfl, _, rfl, by decide, by decide⟩, by decide, rfl⟩

theorem witness_requests_of_the_port :
    ((asked 0x01 [] State.reset).Takes (request 0x01 []) [] ∧ (request 0x01 []).body = []) ∧
    ((asked 0x01 [0] State.reset).Takes (request 0x01 [0]) [] ∧ (request 0x01 [0]).body ≠ []) ∧
    ((asked 0x02 [] State.reset).Takes (request 0x02 []) [] ∧ (request 0x02 []).body = []) ∧
    (asked 0x02 [0] State.reset).Takes (request 0x02 [0]) [] ∧ (request 0x02 [0]).body ≠ [] :=
  ⟨⟨takes_asked _ _ _ rfl, rfl⟩, ⟨takes_asked _ _ _ rfl, by decide⟩, ⟨takes_asked _ _ _ rfl, rfl⟩,
    takes_asked _ _ _ rfl, by decide⟩

/-- Every request stands at the head of some part's queue; one malformed body, or one kind, for each clause. -/
theorem witness_BodiesAndKindsRefused :
    (∀ kind body, (asked kind body State.reset).Takes (request kind body) []) ∧
    (0x04#8 ∉ requestKinds ∧ 0xFF#8 ∉ requestKinds) ∧
    ((List.replicate 69 0#8).length ≠ 70 ∧ 63 < (byteAt (64#8 :: List.replicate 69 0) 0).toNat ∧
      1 < (byteAt ([0, 0, 0, 0, 0, 2] ++ List.replicate 64 0#8) 5).toNat) ∧
    (([] : List Byte).length ≠ 1 ∧ 63 < (byteAt [64] 0).toNat) ∧
    (([3#8] : List Byte).length < 2 ∧ 63 < (byteAt [3, 64] 1).toNat ∧ ([3#8, 5, 1].length - 2) % 5 ≠ 0) ∧
    (([3#8, 1].length - 1) % 5 ≠ 0 ∧ 1025 < (List.replicate 1026 0#8).length) ∧
    (([3#8, 0] : List Byte).length < 3 ∧ beNat (field [3#8, 0, 1] 1 2) ≠ [3#8, 0, 1].length - 3) ∧
    (¬ ([3#8, 0, 0, 1, 0].length = 4 ∧ byteAt [3, 0, 0, 1, 0] 1 = 0 ∨
      [3#8, 0, 0, 1, 0].length = 6 ∧ byteAt [3, 0, 0, 1, 0] 1 = 1)) ∧
    8191 < beNat (field [3#8, 0, 0x20, 0] 2 2) ∧ 8191 < beNat (field [3#8, 0x20, 0] 1 2) ∧
    (¬ ([3#8, 0, 1].length = 3 ∧ byteAt [3, 0, 1] 2 ∈ ([0, 2] : List Byte) ∨
      [3#8, 0, 1].length = 4 ∧ byteAt [3, 0, 1] 2 ∈ ([1, 3] : List Byte) ∧ (byteAt [3, 0, 1] 3).toNat ≤ 12)) ∧
    (1 < (byteAt [3, 2, 0] 1).toNat ∧ ¬ (byteAt [3, 0, 1, 13] 3).toNat ≤ 12) ∧
    ¬ ([4#8].length = 1 ∧ (byteAt [4] 0).toNat ≤ 3 ∨ [4#8].length = 2 ∧ byteAt [4] 0 = 4) ∧
    (byteAt [0] 0 = 0 ∧ 8 < (byteAt [9] 0).toNat) ∧
    (policyListOf [0, 0, 0, 0, 1] = none ∧ policyListOf [14, 0, 0, 0, 1] = none ∧ policyListOf [12, 0, 0, 0, 2] = none ∧
      policyListOf [1, 0, 0, 0, 3, 1, 0, 0, 0, 3] = none ∧ policyListOf [1, 0, 0, 0] = none) ∧
    (let items : List (Nat × Nat) := [(13, 2)]
     (∀ x ∈ items, x.1 < 256 ∧ x.2 < 4294967296) ∧
     ([13, 0, 0, 0, 2] : List Byte) = items.flatMap (fun x => byteOf x.1 :: beBytes 4 x.2) ∧
     ∃ x ∈ items, x.1 = 0 ∨ 13 < x.1 ∨ 12 ≤ x.1 ∧ 1 < x.2) :=
  ⟨fun _ _ => takes_asked _ _ _ rfl, by decide +kernel⟩

theorem witness_UnattachedLinksRefused :
    (∀ kind body, (asked kind body State.reset).Takes (request kind body) []) ∧
    ((asked 0x21 [3] State.reset).Unattached 3 ∧ (asked 0x21 [64] State.reset).Unattached 64) ∧
    policyListOf [] = some [] ∧ policyListOf [13, 0, 0, 0, 1] = some [(13, 1)] ∧
    (List.replicate 1024 0#8).length ≤ 1024 ∧ beNat [0, 1] = [0#8].length ∧ beNat [0x1F, 0xFF] < 8192 ∧
    (1#8).toNat ≤ 1 ∧ (12#8).toNat ≤ 12 ∧ 63 < (64#8).toNat :=
  ⟨fun _ _ => takes_asked _ _ _ rfl, ⟨fun l _ => by simp [asked, State.entry, State.reset], fun l _ => by
    simp [asked, State.entry, State.reset]⟩, by decide +kernel⟩

/-! ## Witnesses: the root store -/

/-- The header of a wrapped root key: shop number and role hub. -/
def wrapHeader : List Byte := beBytes 4 (0x2A#32).toNat ++ [0]

/-- A root key wrapped under the enrolment key, and its tag. -/
def wrapped : List Byte := encipherBytes Config.enrolmentKey 0#96 (beBytes 32 (11#256).toNat)

/-- The tag of the wrapped root key. -/
def wrapTag : List Byte := tagBytes Config.enrolmentKey 0#96 wrapHeader wrapped

/-- The body of a ROOT-LOAD of entry 5 with this tag. -/
def loadBody (tag : List Byte) : List Byte :=
  byteOf (5 : EntryNo).val :: beBytes 4 (0x2A#32).toNat ++ [if Role.hub = .hub then 0 else 1] ++ beBytes 12 (0#96).toNat ++
    wrapped ++ tag ++ beBytes 4 4294967295

theorem witness_RootLoadTaken :
    (∀ tag (s : State), s.operating = true → (asked 0x10 (loadBody tag) s).Takes (request 0x10 (loadBody tag)) []) ∧
    wrapped.length = 32 ∧ wrapTag.length = 16 ∧
    (loaded.operating = true ∧ (loaded.root 5).contents.isSome) ∧
    ((State.reset.root 5).contents = none ∧ ∃ tag, tag.length = 16 ∧
      ¬ State.reset.Opens State.reset.identity.enrolmentKey 0#96 wrapHeader wrapped tag) ∧
    (let s := made { key := Config.enrolmentKey, nonce := 0#96, header := wrapHeader, body := wrapped } State.reset
     s.operating = true ∧ (s.root 5).contents = none ∧
     s.Opens s.identity.enrolmentKey 0#96 wrapHeader wrapped wrapTag) ∧
    wrapped = encipherBytes State.reset.identity.enrolmentKey 0#96 (beBytes 32 (11#256).toNat) := by
  refine ⟨fun _ _ h => takes_asked _ _ _ h, by simp [wrapped], by simp [wrapTag, tagBytes], by decide, ⟨by decide, ?_⟩,
    ⟨rfl, by decide, rfl, genuine_made _ _⟩, rfl⟩
  by_cases h : tagBytes State.reset.identity.enrolmentKey 0#96 wrapHeader wrapped = List.replicate 16 (0#8)
  · refine ⟨List.replicate 16 1#8, rfl, fun opens => ?_⟩
    rw [State.Opens, h] at opens
    exact absurd opens.1 (by decide)
  · exact ⟨List.replicate 16 0#8, rfl, fun opens => h opens.1⟩

theorem witness_RootEraseTaken :
    (∀ s : State, s.operating = true → (asked 0x11 [5] s).Takes (request 0x11 [byteOf (5 : EntryNo).val]) []) ∧
    (State.reset.root 5).contents = none ∧
    ((hubUp.root 5).contents.isSome ∧ (hubUp.root 5).bound.isSome) ∧
    ((loaded.root 5).contents.isSome ∧ (loaded.root 5).bound = none) ∧
    State.reset.operating = true ∧ hubUp.operating = true ∧ loaded.operating = true :=
  ⟨fun _ h => takes_asked _ _ _ h, by decide⟩

/-- A part that writes its root entry 5. -/
def writing : State :=
  { loaded with nvQueue := [5], nvWrite := some { entry := 5, image := (rootOf .hub none).stored, again := true } }

theorem witness_NvWritesQueueAndComplete_queue :
    (∃ w, writing.nvWrite = some w ∧ w.entry = 5) ∧
    (loaded.nvWrite = none ∧ (5 : EntryNo) ∈ { loaded with nvQueue := [5] }.nvQueue) ∧
    ((∀ w, writing.nvWrite = some w → w.entry ≠ 6) ∧ (6 : EntryNo) ∉ writing.nvQueue) ∧
    ({ loaded with nvQueue := [5] }.nvWrite = none ∧ { loaded with nvQueue := [5] }.nvQueue = 5 :: []) ∧
    (writing.nvWrite ≠ none ∧ loaded.nvQueue = []) ∧ loaded.operating = true :=
  ⟨⟨_, rfl, rfl⟩, by decide, ⟨fun w h => by cases h; decide, by decide⟩, by decide, by decide, rfl⟩

theorem witness_NvWritesQueueAndComplete_completion :
    (writing.operating = true ∧ ∃ w u, writing.nvWrite = some w ∧ writing.nvQueue = w.entry :: [] ∧
      u = { writing with
        roots := writing.roots.put w.entry { writing.root w.entry with stored := w.image }
        nvWrite := none
        nvQueue := [] ++ (if w.again then [w.entry] else []) }.reportWrite w.entry) ∧
    loaded.operating = true ∧ loaded.nvWrite = none :=
  ⟨⟨rfl, _, _, rfl, rfl, rfl⟩, rfl, rfl⟩

/-- An OFFER job's work for root entry 5. -/
def offerWork (c : CounterClaim) : Work :=
  .offer { entry := 5, key := 11#256 } { epoch := 8, fresh := false, key := 7#256, salt := 9#32 } c

/-- A BEAT's work under the CURRENT of epoch 7. -/
def beatWork : Work := .beat { role := .current, epoch := 7, key := 7#256, salt := 9#32 } 1

/-- The header of an ASK of counter 1 from shop 0x2A. -/
def askHeader : List Byte := [5, 0] ++ beBytes 4 0x2A ++ beBytes 4 1 ++ beBytes 2 1

/-- A root DECIPHER's work for an ASK record of counter 1. -/
def askedWork : Work := .decipherRoot 0x40 { entry := 5, key := 11#256 } askHeader

/-- The hub's part with its root entry changed. -/
def withRoot (f : RootEntry → RootEntry) : State := { hubUp with roots := hubUp.roots.put 5 (f (rootOf .hub (some 3))) }

theorem witness_CompletedWriteReported :
    (loaded.root 5).bound = none ∧ ((hubUp.root 5).bound = some 3 ∧ ∀ x ∈ hubUp.pool, x.link ≠ 3) ∧
    (∀ j, j.link = 3 → ((working j hubUp).root 5).bound = some 3 ∧ (working j hubUp).First 3 [] j []) ∧
    ((jobOf beatWork (.inLane .a)).state = .inLane .a ∧ (jobOf beatWork .waiting).state = .waiting ∧
      ∀ n, (jobOf beatWork .waiting).work.claim ≠ some (n, .raising)) ∧
    ((jobOf (offerWork .raising) .waiting).work.claim = some (5, .raising) ∧
      (hubUp.root 5).outCounter + 1 ≤ (hubUp.root 5).stored.ceiling) ∧
    ((jobOf askedWork (.held (.ask .due))).state = .held (.ask .due) ∧
      (hubUp.root 5).stored.inCounter < recordSequence askHeader ∧
      recordSequence askHeader ≤ ((withRoot fun r => { r with stored := { r.stored with inCounter := 1 } }).root
        5).stored.inCounter) :=
  ⟨by decide, ⟨by decide, fun x hx => by cases hx⟩,
    fun j h => ⟨by simp [working, hubUp, attached, State.root, rootOf], first_working j _ h⟩,
    ⟨rfl, rfl, fun n => by simp [jobOf, beatWork, Work.claim]⟩, by decide +kernel, by decide +kernel⟩

/-! ## Witnesses: links -/

theorem witness_ReadsAnswered :
    (∀ kind body (s : State), s.operating = true → (asked kind body s).Takes (request kind body) []) ∧
    State.reset.entry 3 = none ∧ hubUp.entry 3 = some (linkOf .hub .up) ∧ hubUp.entry 3 ≠ none :=
  ⟨fun _ _ _ h => takes_asked _ _ _ h, by decide⟩

theorem witness_AttachTaken :
    (∀ body (s : State), s.operating = true → (asked 0x20 body s).Takes (request 0x20 body) []) ∧
    policyListOf [3, 0, 0, 0, 3] = some [(3, 3)] ∧ hubUp.entry 3 ≠ none ∧
    (State.reset.entry 3 = none ∧ (State.reset.root 5).contents = none) ∧
    (hubUp.entry 4 = none ∧ (hubUp.root 5).contents ≠ none ∧ (hubUp.root 5).bound ≠ none) ∧
    (loaded.entry 3 = none ∧ (∃ c, (loaded.root 5).contents = some c) ∧ (loaded.root 5).bound = none) :=
  ⟨fun _ _ h => takes_asked _ _ _ h, by decide, by decide, by decide, by decide, rfl, ⟨_, rfl⟩, rfl⟩

theorem witness_DetachCloses :
    (asked 0x21 [3] hubUp).Takes (request 0x21 [byteOf (3 : Link).val]) [] ∧ hubUp.entry 3 = some (linkOf .hub .up) ∧
    (hubUp.owed.filter fun x => decide (x ≠ 3)) = [] ∧
    (({ hubUp with owed := [3, 9] } : State).owed.filter fun x => decide (x ≠ 3)) ≠ [] :=
  ⟨takes_asked _ _ _ rfl, by decide⟩

theorem witness_PolicyTaken :
    (asked 0x22 [3, 4, 0, 0, 0, 0] hubUp).Takes (request 0x22 (byteOf (3 : Link).val :: [4, 0, 0, 0, 0])) [] ∧
    policyListOf [4, 0, 0, 0, 0] = some [(4, 0)] ∧ hubUp.entry 3 = some (linkOf .hub .up) :=
  ⟨takes_asked _ _ _ rfl, by decide⟩

theorem witness_PolicyListsReadAndClamped :
    (let items : List (Nat × Nat) := [(1, 0), (13, 1)]
     (∀ x ∈ items, x.1 < 256 ∧ x.2 < 4294967296) ∧
      (∀ x ∈ items, (1 ≤ x.1 ∧ x.1 ≤ 13) ∧ (12 ≤ x.1 → x.2 ≤ 1)) ∧ (items.map Prod.fst).Nodup) ∧
    (let items : List (Nat × Nat) := [(14, 0)]
     (∀ x ∈ items, x.1 < 256 ∧ x.2 < 4294967296) ∧
      ¬ ((∀ x ∈ items, (1 ≤ x.1 ∧ x.1 ≤ 13) ∧ (12 ≤ x.1 → x.2 ≤ 1)) ∧ (items.map Prod.fst).Nodup)) ∧
    [1#8].length % 5 ≠ 0 ∧ 1 ≤ 4 ∧ ([(1, 15), (1, 15), (10, 65535), (5, 65535)] : List (Nat × Nat))[4 - 1]? = some (5, 65535) ∧
    (12 ≤ 4 → 4 ≤ 1) := by decide

/-- The hub's part with its entry changed. -/
def withEntry (f : LinkEntry → LinkEntry) : State :=
  attached (f (linkOf .hub .up)) (keysOf none (some (slotOf 7 20000 0)) none) RenewalContext.initial

theorem witness_VerdictsMove :
    (∀ state : Supervision, ∃ e, (withEntry fun e => { e with state := state }).entry 3 = some e ∧ e.state = state ∧
      2 ≤ e.policy.lockOut ∧ e.badCount + 1 < e.policy.lockOut) ∧
    (∃ e, (withEntry fun e => { e with policy := { e.policy with lockOut := 1 } }).entry 3 = some e ∧ e.state = .up ∧
      e.policy.lockOut ≤ 1) ∧
    ∃ e, (withEntry fun e => { e with state := .failing, badCount := 3 }).entry 3 = some e ∧ e.state = .failing ∧
      e.policy.lockOut ≤ e.badCount + 1 :=
  ⟨fun state => ⟨_, rfl, rfl, by cases state <;> decide⟩, ⟨_, rfl, rfl, by decide⟩, ⟨_, rfl, rfl, by decide⟩⟩

/-! ## Witnesses: renewal -/

/-- The hub's link 3 with its context in this state. -/
def hubIn (state : RenewalState) : State :=
  attached (linkOf .hub .up) (keysOf (some (slotOf 8 20000 0)) (some (slotOf 7 20000 0)) none) (contextOf state)

/-- A part whose pool is full of beats. -/
def packed (s : State) : State := { s with pool := List.replicate 32 (jobOf beatWork .waiting) }

theorem witness_RenewAndTriggerTaken_request :
    (∀ state, (asked 0x25 [3] (hubIn state)).Takes (request 0x25 [byteOf (3 : Link).val]) [] ∧
      (hubIn state).entry 3 = some (linkOf .hub .up)) ∧
    (((hubIn .offered).renewal 3).state ≠ .idle ∧ ((hubIn .offered).renewal 3).state ≠ .resting) ∧
    ((hubIn .idle).renewal 3).state = .idle ∧ ((hubIn .resting).renewal 3).state = .resting :=
  ⟨fun _ => ⟨takes_asked _ _ _ rfl, rfl⟩, by decide⟩

theorem witness_RenewAndTriggerTaken_trigger :
    ((hubIn .idle).entry 3 = some (linkOf .hub .up) ∧ ((hubIn .idle).renewal 3).state = .idle ∧
      (linkOf .hub .up).role = .hub) ∧
    (((hubIn .offered).renewal 3).state ≠ .idle ∧ ((hubIn .offered).renewal 3).state ≠ .resting) ∧
    (shopAsked.entry 3 = some (linkOf .shop .keyless) ∧ (linkOf .shop .keyless).role = .shop) := by decide

theorem witness_RoundRequests :
    (∃ e root, (hubIn .offered).entry 3 = some e ∧ ((hubIn .offered).root e.rootEntry).contents = some root) ∧
    ¬ ((packed (hubIn .offered)).pool.length < 32 ∧ (packed (hubIn .offered)).unsolicitedInUse < 16) ∧
    ((hubIn .offered).pool.length < 32 ∧ (hubIn .offered).unsolicitedInUse < 16) ∧
    ((hubIn .offered).keySet 3).next = some (slotOf 8 20000 0) ∧
    { contextOf .asking with roundReason := some Reason.loss }.roundReason = some .loss :=
  ⟨⟨_, _, rfl, rfl⟩, by decide⟩

theorem witness_FirstJobAsks :
    (∀ x ∈ hubUp.pool, x.link ≠ 3) ∧
    (∀ work, (working (jobOf work .waiting) hubUp).First 3 [] (jobOf work .waiting) []) ∧
    ((∀ n, beatWork.claim ≠ some (n, .unasked)) ∧ (jobOf (offerWork .unasked) .waiting).state = .waiting ∧
      (jobOf (offerWork .unasked) .waiting).work.claim = some (5, .unasked)) ∧
    ((hubUp.root 5).outCounter < 4294967295 ∧ (hubUp.root 5).outCounter + 1 ≤ (hubUp.root 5).stored.ceiling) ∧
    (let x := (withRoot fun r => { r with outCounter := 16, ceiling := 32 }).root 5
     x.outCounter < 4294967295 ∧ x.stored.ceiling < x.outCounter + 1 ∧ x.outCounter + 1 ≤ x.ceiling) ∧
    (let x := (withRoot fun r => { r with outCounter := 16 }).root 5
     x.outCounter < 4294967295 ∧ x.stored.ceiling < x.outCounter + 1 ∧ x.ceiling < x.outCounter + 1) ∧
    4294967295 ≤ ((withRoot fun r => { r with outCounter := 4294967295 }).root 5).outCounter ∧
    ((hubIn .offered).renewal 3).state = .offered ∧ hubUp.entry 3 = some (linkOf .hub .up) :=
  ⟨fun x hx => (by cases hx), fun _ => first_working _ _ rfl, ⟨fun n => by simp [beatWork, Work.claim], by decide⟩,
    by decide⟩

theorem witness_PromotionTaken :
    ((hubIn .offered).entry 3 = some (linkOf .hub .up) ∧ (linkOf .hub .up).role = .hub) ∧
    (shopAsked.entry 3 = some (linkOf .shop .keyless) ∧ (linkOf .shop .keyless).role = .shop) := by decide

/-- A shop's link 3 with these slots. -/
def shopWith (next current previous : Option KeySlot) (state : RenewalState) : State :=
  attached (linkOf .shop .up) (keysOf next current previous) (contextOf state)

/-- The plaintext of an OFFER. -/
def offerText (epoch : Nat) (fresh : Bool) (key : Key) : OfferText :=
  { epoch := epoch, fresh := fresh, key := key, salt := 9#32 }

theorem witness_OfferTaken :
    (let s := shopWith none (some (slotOf 7 20000 0)) (some (slotOf 6 20000 0)) .idle
     s.entry 3 = some (linkOf .shop .up) ∧ (linkOf .shop .up).role = .shop ∧
     (∃ x, (s.keySet 3).current = some x ∧ x.epoch = (offerText 7 false 7#256).epoch ∧
       x.key = (offerText 7 false 7#256).key) ∧
     (¬ ∃ x, (s.keySet 3).current = some x ∧ x.epoch = 7 ∧ x.key = 8#256) ∧
     (¬ ∃ x, (s.keySet 3).next = some x ∧ x.epoch = 7 ∧ x.key = 8#256 ∧ x.salt = 9#32) ∧
     (∃ x, (s.keySet 3).current = some x ∧ x.epoch = (offerText 7 false 8#256).epoch) ∧
     (offerText 6 false 8#256).fresh = false ∧
     (∀ x, (s.keySet 3).current = some x → x.epoch ≠ (offerText 6 false 8#256).epoch) ∧
     ∃ x, (s.keySet 3).previous = some x ∧ x.epoch = (offerText 6 false 8#256).epoch) ∧
    (let s := shopWith (some (slotOf 8 20000 0)) none none .proved
     (∃ x, (s.keySet 3).next = some x ∧ x.epoch = (offerText 8 true 7#256).epoch ∧
       x.key = (offerText 8 true 7#256).key ∧ x.salt = (offerText 8 true 7#256).salt) ∧
     (s.renewal 3).state = .proved ∧ (s.keySet 3).current = none ∧ (offerText 1 true 8#256).fresh = true) := by
  refine ⟨⟨by decide, rfl, ⟨_, rfl, rfl, rfl⟩, ?_, ?_, ⟨_, rfl, rfl⟩, rfl, ?_, ⟨_, rfl, rfl⟩⟩,
    ⟨_, rfl, rfl, rfl, rfl⟩, by decide⟩
  · rintro ⟨x, h, -, k⟩
    cases h
    exact absurd k (by decide)
  · rintro ⟨x, h, -⟩
    cases h
  · rintro x h
    cases h
    decide

/-! ## Witnesses: the record engine -/

/-- A traffic job of the host. -/
def encipherWork : Work := .encipher 0x40 { role := .current, epoch := 7, key := 7#256, salt := 9#32 } 1 [1, 2]

theorem witness_EncipherTaken :
    (∀ body (s : State), s.operating = true → (asked 0x30 body s).Takes (request 0x30 body) []) ∧
    (List.replicate 1024 0#8).length ≤ 1024 ∧
    (shopAsked.entry 3 = some (linkOf .shop .keyless) ∧
      (shopAsked.keySet 3).slot (outboundRoleOf (linkOf .shop .keyless) (shopAsked.renewal 3)) = none) ∧
    (hubUp.entry 3 = some (linkOf .hub .up) ∧
      (hubUp.keySet 3).slot (outboundRoleOf (linkOf .hub .up) (hubUp.renewal 3)) = some (slotOf 7 20000 0)) ∧
    ¬ ({ hubUp with pool := List.replicate 28 (jobOf encipherWork .waiting) }.hostJobs < 28 ∧
      { hubUp with pool := List.replicate 28 (jobOf encipherWork .waiting) }.pool.length < 32) ∧
    ({ hubUp with pool := List.replicate 27 (jobOf encipherWork .waiting) }.hostJobs < 28 ∧
      { hubUp with pool := List.replicate 27 (jobOf encipherWork .waiting) }.pool.length < 32) ∧
    (¬ ((slotOf 7 20000 19998).outSequence < 4294967295 ∧
        (slotOf 7 20000 19998).protectedBlocks + ((17 + 15) / 16 + 2) ≤ (slotOf 7 20000 19998).wearLimit) ∧
      (slotOf 7 20000 19998).protectedBlocks + ((0 + 15) / 16 + 2) ≤ (slotOf 7 20000 19998).wearLimit) :=
  ⟨fun _ _ h => takes_asked _ _ _ h, by decide +kernel, by decide, by decide, by decide +kernel, by decide +kernel,
    by decide⟩

theorem witness_SoftCrossingTested :
    (hubUp.entry 3 = some (linkOf .hub .up) ∧ (hubUp.keySet 3).slot .current = some (slotOf 7 20000 0)) ∧
    ((slotOf 7 20000 15000).softCrossed = false ∧
      (slotOf 7 20000 15000).softThreshold ≤ (slotOf 7 20000 15000).protectedBlocks +
        (slotOf 7 20000 15000).openedBlocks) ∧
    ¬ ((slotOf 7 20000 14999).softCrossed = false ∧
      ((slotOf 7 20000 14999).softThreshold ≤ (slotOf 7 20000 14999).protectedBlocks +
        (slotOf 7 20000 14999).openedBlocks ∨ 2147483648 ≤ (slotOf 7 20000 14999).outSequence)) := by decide

theorem witness_TrafficRequested :
    (∃ e, hubUp.entry 3 = some e ∧
      (hubUp.keySet 3).slot (outboundRoleOf e (hubUp.renewal 3)) = some (slotOf 7 20000 0)) ∧
    (∃ e, shopAsked.entry 3 = some e ∧
      (shopAsked.keySet 3).slot (outboundRoleOf e (shopAsked.renewal 3)) = none) ∧
    ¬ ((packed hubUp).pool.length < 32 ∧ (packed hubUp).unsolicitedInUse < 16) ∧
    (hubUp.pool.length < 32 ∧ hubUp.unsolicitedInUse < 16) ∧
    (¬ (slotOf 7 20000 19999).protectedBlocks + 2 ≤ (slotOf 7 20000 19999).wearLimit ∧
      (slotOf 7 20000 19998).protectedBlocks + 2 ≤ (slotOf 7 20000 19998).wearLimit) :=
  ⟨⟨_, rfl, rfl⟩, ⟨_, rfl, rfl⟩, by decide⟩

/-- A record of this kind, epoch and sequence with an empty body, whatever its tag. -/
def bare (kind epoch : Byte) (sequence length : Nat) : List Byte :=
  [kind, epoch] ++ beBytes 4 0x2A ++ beBytes 4 sequence ++ beBytes 2 length ++ List.replicate (16 + length) 0

theorem witness_DecipherTaken :
    (∀ body (s : State), s.operating = true → (asked 0x31 body s).Takes (request 0x31 body) []) ∧
    (beNat [0, 28] = (bare 2 7 1 0).length ∧ hubUp.entry 3 = some (linkOf .hub .up)) ∧
    (Malformed .hub 0x2A#32 [4] ∧ Malformed .hub 0x2A#32 [] ∧ (linkOf .hub .up).losesLock = false) ∧
    { linkOf .hub .failing with badCount := 3 }.losesLock = true ∧
    (¬ Malformed .hub 0x2A#32 (bare 2 7 1 0) ∧ ¬ Malformed .hub 0x2A#32 (bare 2 9 1 0) ∧
      ¬ Malformed .hub 0x2A#32 (bare 5 0 1 1)) ∧
    (∀ role x, (hubUp.keySet 3).slot role = some x → x.epoch ≠ recordEpoch (bare 2 9 1 0)) ∧
    ((hubUp.keySet 3).slot .current = some (slotOf 7 20000 0) ∧
      (slotOf 7 20000 0).epoch = recordEpoch (bare 2 7 1 0) ∧
      ∀ role' y, (hubUp.keySet 3).slot role' = some y → y.epoch = recordEpoch (bare 2 7 1 0) → role' = .current) ∧
    (∃ c, (hubUp.root (linkOf .hub .up).rootEntry).contents = some c) := by
  refine ⟨fun _ _ h => takes_asked _ _ _ h, by decide, ?_, by decide, ?_, ?_, ⟨rfl, by decide, ?_⟩, ⟨_, rfl⟩⟩
  · dsimp only [Malformed]
    refine ⟨?_, ?_, ?_⟩ <;> decide +kernel
  · dsimp only [Malformed]
    refine ⟨?_, ?_, ?_⟩ <;> decide +kernel
  · rintro (_ | _ | _) x h <;> cases h
    decide
  · rintro (_ | _ | _) y h _ <;> first | rfl | cases h

theorem witness_GrantIsRoundRobin :
    (hubUp.operating = true ∧ ∃ j ∈ (working (jobOf beatWork (.inLane .a)) hubUp).pool, j.state = .inLane .a) ∧
    (∀ l, ¬ ∃ before j after, hubUp.First l before j after ∧ j.state = .waiting ∧
      ∀ e c, j.work.claim = some (e, c) → c = .ready) ∧
    (∀ work, work = beatWork ∨ work = offerWork .ready →
      (working (jobOf work .waiting) hubUp).First (hubUp.pointer + 1 + 3) [] (jobOf work .waiting) [] ∧
      (jobOf work .waiting).state = .waiting ∧
      (∀ x ∈ (working (jobOf work .waiting) hubUp).pool, x.state ≠ .inLane .b) ∧
      ∀ d' < (3 : Fin 64), ∀ before j after,
        ¬ (working (jobOf work .waiting) hubUp).First (hubUp.pointer + 1 + d') before j after) ∧
    beatWork.claim = none ∧ (offerWork .ready).claim = some (5, .ready) := by
  refine ⟨⟨rfl, _, List.mem_singleton.mpr rfl, rfl⟩, ?_, ?_, rfl, rfl⟩
  · rintro l ⟨before, j, after, ⟨h, -⟩, -⟩
    exact absurd h (by simp [hubUp, attached, State.reset])
  · intro work _
    refine ⟨first_working _ _ rfl, rfl, ?_, ?_⟩
    · intro x hx
      rw [List.mem_singleton.mp hx]
      simp [jobOf]
    · rintro d' hd before j after ⟨h, hl, -⟩
      have same : jobOf work .waiting = j := by
        rcases before with _ | ⟨x, xs⟩
        · exact (List.cons.inj h).1
        · exact absurd (List.cons.inj h).2 (by simp)
      rw [← same] at hl
      change (3 : Link) = 63 + 1 + d' at hl
      clear same h
      revert d'
      decide

theorem witness_EncipherCompletes :
    (working (jobOf encipherWork (.inLane .a)) hubUp).InLane .a [] (jobOf encipherWork (.inLane .a)) [] ∧
    hubUp.operating = true ∧ (working (jobOf encipherWork (.inLane .a)) hubUp).entry 3 = some (linkOf .hub .up) :=
  ⟨inLane_working _ _ _, by decide⟩

/-- The header of a DATA record of this sequence and one byte under epoch 7, from a shop of number 0x2A. -/
def heardHeader (sequence : Nat) : List Byte := [1, 7] ++ beBytes 4 0x2A ++ beBytes 4 sequence ++ beBytes 2 1

/-- A DATA record of this sequence under the CURRENT of epoch 7, as a shop of number 0x2A sends it. -/
def heard (sequence : Nat) : List Byte :=
  protect 7#256 (sentNonce .shop 9#32 sequence) (heardHeader sequence) [0x55]

/-- The part, where the record `heard` has been protected and nothing else. -/
def hearing (sequence : Nat) (s : State) : State :=
  made (protectionOf 7#256 (sentNonce .shop 9#32 sequence) (heardHeader sequence) [0x55]) s

/-- The work of a DECIPHER of a record under the CURRENT of epoch 7. -/
def heardWork (record : List Byte) : Work :=
  .decipherTraffic 0x40 { role := .current, epoch := 7, key := 7#256, salt := 9#32 } record

theorem heard_sequence (n : Nat) (h : n < 4294967296) : recordSequence (heard n) = n := by
  have bytes : recordSequenceBytes (heard n) = beBytes 4 n := rfl
  rw [recordSequence, bytes, beNat_beBytes_of_lt (by omega)]

theorem heard_verifies (s : State) (n : Nat) (h : n < 4294967296) :
    (hearing n s).Verifies 7#256 (receivedNonce .hub 9#32 (recordSequence (heard n))) (heard n) := by
  rw [heard_sequence n h]
  exact (protect_verifies _ 7#256 (sentNonce .shop 9#32 n) _ [0x55] (by simp [heardHeader]) (genuine_made _ _)).1

theorem nothing_verifies_empty (s : State) (key : Key) (nonce : Nonce) : ¬ s.Verifies key nonce [] := by
  intro h
  have short := congrArg List.length h.1
  simp [tagBytes] at short

theorem witness_TrafficAccepted :
    (∀ record, (working (jobOf (heardWork record) (.inLane .b)) hubUp).InLane .b []
      (jobOf (heardWork record) (.inLane .b)) []) ∧
    (hubUp.operating = true ∧ hubUp.entry 3 = some (linkOf .hub .up)) ∧
    (∀ s, (hearing 1 s).Verifies 7#256 (receivedNonce .hub 9#32 (recordSequence (heard 1))) (heard 1)) ∧
    (hubUp.keySet 3).slot .current = some (slotOf 7 20000 0) ∧ (slotOf 7 20000 0).epoch = recordEpoch (heard 1) ∧
    (slotOf 7 20000 0).key = 7#256 ∧
    (∀ role' x, (hubUp.keySet 3).slot role' = some x → x.epoch = recordEpoch (heard 1) → role' = .current) ∧
    (slotOf 7 20000 0).window.high < recordSequence (heard 1) ∧
    (100 ≤ recordSequence (heard 37) + 63 ∧ recordSequence (heard 37) ∉ [97, 98, 100]) := by
  refine ⟨fun _ => inLane_working _ _ _, by decide, fun s => heard_verifies s 1 (by decide), rfl, rfl, rfl, ?_, ?_, ?_⟩
  · rintro (_ | _ | _) x h _ <;> first | rfl | cases h
  · rw [heard_sequence 1 (by decide)]
    decide
  · rw [heard_sequence 37 (by decide)]
    decide

theorem witness_TrafficDropped :
    (∃ record, ∀ s : State, ¬ s.Verifies 7#256 (receivedNonce .hub 9#32 (recordSequence record)) record) ∧
    (∀ n < 4294967296, ∀ s, (hearing n s).Verifies 7#256 (receivedNonce .hub 9#32 (recordSequence (heard n))) (heard n)) ∧
    (∀ role x, (shopAsked.keySet 3).slot role = some x → x.epoch = recordEpoch (heard 1) → x.key ≠ 7#256) ∧
    ((hubUp.keySet 3).slot .current = some (slotOf 7 20000 0) ∧ (slotOf 7 20000 0).epoch = recordEpoch (heard 36) ∧
      (slotOf 7 20000 0).key = 7#256 ∧
      ∀ role' x, (hubUp.keySet 3).slot role' = some x → x.epoch = recordEpoch (heard 36) → role' = .current) ∧
    recordSequence (heard 36) + 63 < 100 ∧
    (recordSequence (heard 100) ≤ 100 ∧ 100 ≤ recordSequence (heard 100) + 63 ∧
      recordSequence (heard 100) ∈ [97, 98, 100]) ∧
    (Policy.default.duplicates = .tolerant ∧ { Policy.default with duplicates := .strict }.duplicates = .strict) := by
  refine ⟨⟨[], fun s => nothing_verifies_empty s _ _⟩, fun n h s => heard_verifies s n h, ?_, ⟨rfl, rfl, rfl, ?_⟩, ?_, ?_,
    by decide⟩
  · rintro (_ | _ | _) x h <;> cases h
  · rintro (_ | _ | _) x h _ <;> first | rfl | cases h
  · rw [heard_sequence 36 (by decide)]
    decide
  · rw [heard_sequence 100 (by decide)]
    decide

/-- The header of a root record of counter 1. -/
def rootHeader (kind : Byte) (text : List Byte) : List Byte :=
  [kind, 0] ++ beBytes 4 0x2A ++ beBytes 4 1 ++ beBytes 2 text.length

/-- A root record of counter 1 as this role sends it. -/
def rootHeard (sender : Role) (kind : Byte) (text : List Byte) : List Byte :=
  protect 11#256 (sentNonce sender 0#32 1) (rootHeader kind text) text

/-- The part, where the record `rootHeard` has been protected and nothing else. -/
def rootHearing (sender : Role) (kind : Byte) (text : List Byte) (s : State) : State :=
  made (protectionOf 11#256 (sentNonce sender 0#32 1) (rootHeader kind text) text) s

theorem rootHeard_sequence (sender : Role) (kind : Byte) (text : List Byte) :
    recordSequence (rootHeard sender kind text) = 1 := by
  have bytes : recordSequenceBytes (rootHeard sender kind text) = beBytes 4 1 := rfl
  rw [recordSequence, bytes]
  decide

/-- At either role a root record that verifies can hold a plaintext that fits and one that does not. -/
theorem witness_RootRecordJudged :
    (∀ work, (working (jobOf work (.inLane .a)) hubUp).InLane .a [] (jobOf work (.inLane .a)) []) ∧
    (∀ text s, (rootHearing .shop 5 text s).Verifies 11#256
        (receivedNonce .hub 0#32 (recordSequence (rootHeard .shop 5 text))) (rootHeard .shop 5 text) ∧
      decipherBytes 11#256 (receivedNonce .hub 0#32 (recordSequence (rootHeard .shop 5 text)))
        (field (rootHeard .shop 5 text) 12 ((rootHeard .shop 5 text).length - 28)) = text) ∧
    (∀ text s, (rootHearing .hub 4 text s).Verifies 11#256
        (receivedNonce .shop 0#32 (recordSequence (rootHeard .hub 4 text))) (rootHeard .hub 4 text) ∧
      decipherBytes 11#256 (receivedNonce .shop 0#32 (recordSequence (rootHeard .hub 4 text)))
        (field (rootHeard .hub 4 text) 12 ((rootHeard .hub 4 text).length - 28)) = text) ∧
    (∃ record, ∀ s : State, ¬ s.Verifies 11#256 (receivedNonce .hub 0#32 (recordSequence record)) record) ∧
    (1 ≤ (byteAt [6] 0).toNat ∧ (byteAt [6] 0).toNat ≤ 6 ∧ Reason.start.code = byteAt [6] 0 ∧
      ¬ (1 ≤ (byteAt [7] 0).toNat ∧ (byteAt [7] 0).toNat ≤ 6)) ∧
    (1 ≤ (byteAt [255, 1] 0).toNat ∧ (byteAt [255, 1] 1).toNat ≤ 1 ∧
      ¬ (1 ≤ (byteAt [0, 1] 0).toNat ∧ (byteAt [0, 1] 1).toNat ≤ 1)) ∧
    ((hubUp.root 5).inCounter < recordSequence (rootHeard .shop 5 [6]) ∧
      ¬ ((withRoot fun r => { r with inCounter := 1 }).root 5).inCounter < recordSequence (rootHeard .shop 5 [6])) := by
  refine ⟨fun _ => inLane_working _ _ _, fun text s => ?_, fun text s => ?_,
    ⟨[], fun s => nothing_verifies_empty s _ _⟩, by decide, by decide, ?_⟩
  · rw [rootHeard_sequence]
    exact protect_verifies _ 11#256 (sentNonce .shop 0#32 1) _ text (by simp [rootHeader]) (genuine_made _ _)
  · rw [rootHeard_sequence]
    exact protect_verifies _ 11#256 (sentNonce .hub 0#32 1) _ text (by simp [rootHeader]) (genuine_made _ _)
  · rw [rootHeard_sequence]
    decide

/-- In a part that has protected one record, that record verifies and is altered in its last byte; the same record is one
this part may have sent, as a shop. -/
theorem witness_RecordsVerifyOnlyAsProtected :
    (∀ s, (hearing 1 s).Verifies 7#256 (sentNonce .shop 9#32 1) (heard 1)) ∧ 28 ≤ (heard 1).length ∧
    (heardHeader 1).length = 12 ∧
    (∀ s, protectionOf 7#256 (sentNonce .shop 9#32 1) (heardHeader 1) [0x55] ∈ (hearing 1 s).protections) ∧
    ((8#256, sentNonce .shop 9#32 1) ≠ (7#256, sentNonce .shop 9#32 1)) ∧
    ∀ (s : State), ∀ x ∈ (hearing 1 s).protections,
      x = protectionOf 7#256 (sentNonce .shop 9#32 1) (heardHeader 1) [0x55] :=
  ⟨fun _ => (protect_verifies _ 7#256 (sentNonce .shop 9#32 1) _ [0x55] (by simp [heardHeader]) (genuine_made _ _)).1,
    by simp [heard, protect, heardHeader, tagBytes], by simp [heardHeader], fun _ => List.mem_singleton_self _,
    by decide, fun _ _ h => List.mem_singleton.mp h⟩

theorem witness_ControlJobEmits :
    (∀ work, (working (jobOf work (.inLane .b)) hubUp).InLane .b [] (jobOf work (.inLane .b)) []) ∧
    hubUp.operating = true ∧ hubUp.entry 3 = some (linkOf .hub .up) ∧
    offerWork (.taken 1) = .offer { entry := 5, key := 11#256 }
      { epoch := 8, fresh := false, key := 7#256, salt := 9#32 } (.taken 1) ∧
    ((hubIn .offered).renewal 3).state = .offered :=
  ⟨fun _ => inLane_working _ _ _, by decide⟩

/-! ## Witnesses: faults and notices -/

/-- The hub's part with its fault record changed. -/
def faulty (f : FaultRecord → FaultRecord) : State :=
  { hubUp with faults := hubUp.faults.put 3 (f FaultRecord.initial) }

/-- A part whose unsolicited slots are all filled. -/
def full (s : State) : State := { s with output := List.replicate 16 (noticeOf 5 0x001#13 1) }

theorem witness_OccurrenceTaken :
    ((faulty fun r => { r with flags := 1#13 }).faultRecord 3).flags &&& (1#13 <<< FaultKind.tag.code) ≠ 0#13 ∧
    (hubUp.faultRecord 3).flags &&& (1#13 <<< FaultKind.tag.code) = 0#13 ∧
    ¬ ((hubUp.isPending 3 = false ∧ hubUp.noticeMode.includes 3 = true ∧
      ((hubUp.faultRecord 3).flags ||| (1#13 <<< FaultKind.due.code)) &&& (hubUp.faultRecord 3).enabled ≠ 0#13)) ∧
    (hubUp.isPending 3 = false ∧ hubUp.noticeMode.includes 3 = true ∧
      ((hubUp.faultRecord 3).flags ||| (1#13 <<< FaultKind.tag.code)) &&& (hubUp.faultRecord 3).enabled ≠ 0#13 ∧
      (hubUp.faultRecord 3).noticeSent = false) ∧
    (hubUp.unsolicitedInUse < 16 ∧ hubUp.owed = [] ∧ 16 ≤ (full hubUp).unsolicitedInUse) := by decide

/-- A part with one unsolicited slot free, link 3 owed a NOTICE, and the beat of its link 3 at its expiry. -/
def contested : State :=
  { withEntry (fun e => { e with beatTimer := .expiring }) with
    output := List.replicate 15 (noticeOf 5 0x001#13 1)
    owed := [3] }

/-- The one due control request of that part is its beat (R146). -/
theorem test_beat_contests : contested.dueClaims = [.beat 3] := by decide +kernel

theorem witness_FreedSlotsServed :
    (contested.owed = 3 :: [] ∧ contested.unsolicitedInUse = 15 ∧ contested.dueClaims ≠ [] ∧ contested.operating = true) ∧
    (State.reset.owed = [] ∧ 16 ≤ crowded.unsolicitedInUse) ∧
    (State.Quiet { crowded with output := List.replicate 15 (noticeOf 5 0x001#13 1) } ∧ crowded.owed ≠ []) :=
  ⟨⟨rfl, by decide, by rw [test_beat_contests]; decide, rfl⟩, ⟨rfl, by decide⟩, quiet_of_reset _ rfl rfl, by decide⟩

theorem witness_FaultsClearedAndEnabled :
    (∀ kind body (s : State), s.operating = true → (asked kind body s).Takes (request kind body) []) ∧
    hubUp.entry 3 ≠ none ∧ beBytes 2 (8191#13).toNat = [0x1F, 0xFF] ∧
    (∃ n, some 65535 = some n ∧ n ≠ (hubUp.faultRecord 3).stamp) ∧ (∀ n, some 0 = some n → n = (hubUp.faultRecord 3).stamp) ∧
    ((faulty fun r => { r with flags := 1#13 }).isPending 3 = true ∧ hubUp.isPending 3 = false) ∧
    ((1#13 &&& 1#13 ≠ 0#13 ∧ hubUp.noticeMode.includes 3 = true) ∧ ¬ (1#13 &&& 2#13 ≠ 0#13)) ∧
    ((faulty fun r => { r with flags := 0x80#13 }).isPending 3 = false ∧ 0x80#13 &&& 0x80#13 ≠ 0#13 ∧
      ((faulty fun r => { r with flags := 0x80#13 }).faultRecord 3).noticeSent = false ∧
      (faulty fun r => { r with flags := 0x80#13 }).unsolicitedInUse < 16 ∧
      (faulty fun r => { r with flags := 0x80#13 }).owed = []) ∧
    16 ≤ (full (faulty fun r => { r with flags := 0x80#13 })).unsolicitedInUse :=
  ⟨fun _ _ _ h => takes_asked _ _ _ h, by decide, by decide, ⟨_, rfl, by decide⟩, fun n h => by cases h; decide, by decide⟩

theorem witness_CounterSetTaken :
    (asked 0x43 [3, 1, 3, 12] hubUp).Takes (request 0x43 [3, 1, 3, 12]) [] ∧ hubUp.entry 3 ≠ none ∧
    [3#8, 1, 3, 12] = [byteOf (3 : Link).val, if true then 1 else 0,
      byteOf ((if some FaultKind.beatSkip = none then 0 else 1) + (if true then 2 else 0))] ++ [byteOf FaultKind.beatSkip.code] ∧
    [3#8, 0, 0] = [byteOf (3 : Link).val, if false then 1 else 0,
      byteOf ((if (none : Option FaultKind) = none then 0 else 1) + (if false then 2 else 0))] ++ [] :=
  ⟨takes_asked _ _ _ rfl, by decide⟩

theorem witness_LogReadTaken :
    (asked 0x45 [8] hubUp).Takes (request 0x45 [8]) [] ∧ 1 ≤ 8 ∧ (request 0x45 [8]).body = [byteOf 8] ∧
    (asked 0x45 [1] hubUp).Takes (request 0x45 [byteOf 1]) [] :=
  ⟨takes_asked _ _ _ rfl, by decide, rfl, takes_asked _ _ _ rfl⟩

/-! ## Witnesses: time -/

theorem witness_TickCounts :
    State.reset.operating = true ∧ State.reset.tickCount < 4294967295 ∧
    { State.reset with tickCount := 4294967295 }.tickCount = 4294967295 ∧ State.reset.entry 3 = none ∧
    hubUp.entry 3 = some (linkOf .hub .up) ∧ 2 ≤ 2 := by decide

theorem witness_GraceBeatAndRoundTimersExpire_beat :
    { keysOf none none (some (slotOf 6 20000 0)) with grace := Timer.expiring }.grace = .expiring ∧
    (∀ wear, wear ∈ [20000, 0] →
      let s := attached { linkOf .hub .up with beatTimer := .expiring } (keysOf none (some (slotOf 7 wear 0)) none)
        RenewalContext.initial
      s.operating = true ∧ s.entry 3 = some { linkOf .hub .up with beatTimer := .expiring } ∧
      s.controlAnswer 3 = (if wear = 0 then .spent else .accepted) ∧ (packed s).controlAnswer 3 = .noRoom) := by decide

theorem witness_GraceBeatAndRoundTimersExpire_round :
    (∀ state tries, (attached (linkOf .hub .up) KeySet.empty
      { contextOf state with stepTimer := .expiring, triesUsed := tries }).entry 3 = some (linkOf .hub .up) ∧
      ((attached (linkOf .hub .up) KeySet.empty
        { contextOf state with stepTimer := .expiring, triesUsed := tries }).renewal 3).stepTimer = .expiring) ∧
    2 < (linkOf .hub .up).policy.offerTries ∧ ¬ 3 < (linkOf .hub .up).policy.offerTries ∧
    ((hubUp.keySet 3).current ≠ none ∧ (hubUp.renewal 3).dueMark = false) ∧ (shopAsked.keySet 3).current = none :=
  ⟨fun _ _ => ⟨rfl, rfl⟩, by decide⟩

theorem witness_RenewalAndSilenceExpire :
    (let s := attached { linkOf .hub .up with silenceTimer := .expiring } (keysOf none (some (slotOf 7 20000 0)) none)
      { RenewalContext.initial with renewalTimer := .expiring }
     s.operating = true ∧ s.entry 3 = some { linkOf .hub .up with silenceTimer := .expiring } ∧
     (s.renewal 3).renewalTimer = .expiring ∧ (s.keySet 3).current = some (slotOf 7 20000 0)) ∧
    (linkOf .hub .hunt).state = .hunt ∧ (linkOf .hub .up).state = .up ∧ (linkOf .hub .failing).state = .failing := by decide

theorem witness_TickRequestsMade :
    (∀ state,
      let c := { contextOf state with claimDue := true, retryOwed := true, confirmDue := true, confirmOwed := true }
      let s := attached (linkOf .hub .up) KeySet.empty c
      s.operating = true ∧ (s.renewal 3).claimDue = true ∧ (s.renewal 3).state = state ∧
      (s.renewal 3).retryOwed = true ∧ (s.renewal 3).confirmDue = true ∧ (s.renewal 3).confirmOwed = true) ∧
    (packed hubUp).controlAnswer 3 = .noRoom ∧ hubUp.controlAnswer 3 ≠ .noRoom :=
  ⟨fun _ => ⟨rfl, rfl, rfl, rfl, rfl, rfl⟩, by decide⟩

theorem witness_WearAndWindow :
    (16 * 0 < 1 ∧ 1 ≤ 16 * (0 + 1) ∧ 16 * 63 < 1024 ∧ 1024 ≤ 16 * (63 + 1)) ∧ (4096 ≤ 4096 ∧ 1 ≤ 7 ∧ 7 ≤ 7) ∧
    (let w : Window := { high := 100, seen := [97, 98, 100] }
     w.Sound ∧ w.judge 37 = .accepted ∧ w.judge 101 = .accepted ∧
     ∃ w' : Window, w'.Sound ∧ w'.high ≥ (w.accept 101).high ∧
      ∀ x, x ∈ (w.accept 101).seen → x ≤ w'.high → w'.high ≤ x + 63 → x ∈ w'.seen) := by
  have accepted : ({ high := 100, seen := [97, 98, 100] } : Window).accept 101 = { high := 101, seen := [97, 98, 100, 101] } := by
    decide
  refine ⟨by decide, by decide, ⟨by decide, by decide, by decide⟩, by decide, by decide,
    { high := 101, seen := [97, 98, 100, 101] }, ⟨by decide, by decide, by decide⟩, ?_, ?_⟩ <;> rw [accepted]
  exact fun x h _ _ => h

/-! ## Witnesses: the invariants -/

/-- A hub's link 3, UP under a CURRENT of epoch 7 that has sent one record, with its timers running, a BEAT waiting, its
root entry's counters ordered, and a tick to come. -/
def live : State :=
  { attached { linkOf .hub .up with beatTimer := .running 150, silenceTimer := .running 600 }
      (keysOf none (some (slotOf 7 20000 2)) none) { RenewalContext.initial with renewalTimer := .running 864000 } with
    pool := [jobOf beatWork .waiting]
    pending := [.tick] }

theorem live_entry {l : Link} {e : LinkEntry} (h : live.entry l = some e) :
    l = 3 ∧ e = { linkOf .hub .up with beatTimer := .running 150, silenceTimer := .running 600 } := by
  simp only [live, attached, State.entry, State.reset, Table.look_put, Table.look_filled] at h
  split at h
  · exact ⟨‹_›, (Option.some.inj h).symm⟩
  · cases h

theorem live_keySet (l : Link) :
    live.keySet l = if l = 3 then keysOf none (some (slotOf 7 20000 2)) none else KeySet.empty := by
  simp only [live, attached, State.keySet, State.reset, Table.look_put, Table.look_filled]

theorem live_slot {l : Link} {role : SlotRole} {k : KeySlot} (h : (live.keySet l).slot role = some k) :
    l = 3 ∧ role = .current ∧ k = slotOf 7 20000 2 := by
  rw [live_keySet] at h
  split at h
  · cases role <;> simp [keysOf, KeySet.slot] at h
    exact ⟨‹_›, rfl, h.symm⟩
  · cases role <;> cases h

theorem live_renewal (l : Link) :
    live.renewal l = if l = 3 then { RenewalContext.initial with renewalTimer := .running 864000 }
      else RenewalContext.initial := by
  simp only [live, attached, State.renewal, State.reset, Table.look_put, Table.look_filled]

theorem live_root (e : EntryNo) :
    live.root e = if e = 5 then rootOf .hub (some 3) else RootEntry.manufactured := by
  simp only [live, attached, linkOf, State.root, State.reset, Table.look_put, Table.look_filled]

theorem live_faultRecord (l : Link) : live.faultRecord l = FaultRecord.initial := by
  simp only [live, attached, State.faultRecord, State.reset, Table.look_filled]

theorem live_withinSizes : live.WithinSizes := by
  unfold State.WithinSizes
  decide

theorem live_slotsSound : live.SlotsSound := by
  refine ⟨?_, ?_, ?_, ?_⟩
  · intro l e h
    obtain ⟨-, rfl⟩ := live_entry h
    unfold Policy.Sound
    decide
  · intro l role k h
    obtain ⟨-, -, rfl⟩ := live_slot h
    exact ⟨by decide, by decide, by decide, by decide, by decide, by decide, by decide, by decide, by decide,
      by decide, by decide, by decide⟩
  · intro j h t k
    rw [List.mem_singleton.mp h] at k
    cases k
  · intro l
    rw [live_renewal]
    split <;> decide

theorem live_bindingsSound : live.BindingsSound := by
  refine ⟨?_, ?_⟩
  · intro e l
    rw [live_root]
    constructor
    · intro h
      split at h
      · subst e
        cases h
        exact ⟨_, rfl, rfl⟩
      · cases h
    · rintro ⟨x, h, rfl⟩
      obtain ⟨rfl, rfl⟩ := live_entry h
      rfl
  · intro l h
    have far : l ≠ 3 := by
      rintro rfl
      cases h
    refine ⟨by rw [live_keySet, if_neg far], by rw [live_renewal, if_neg far], live_faultRecord l, by simp [live, attached, State.reset], ?_⟩
    intro j hj
    rw [List.mem_singleton.mp hj]
    exact far.symm

theorem live_noticesSound : live.NoticesSound := by
  refine ⟨?_, ?_, ?_, List.Pairwise.nil, fun h => absurd rfl h⟩
  · intro l
    rw [live_faultRecord]
    unfold FaultRecord.Sound
    decide
  · intro l
    simp only [State.isPending, live_faultRecord]
    simp [FaultRecord.meets, FaultSet.meets, FaultRecord.initial, live, attached, State.reset]
  · intro l h
    cases h

theorem live_supervisionSound : live.SupervisionSound := by
  intro l e h
  obtain ⟨rfl, rfl⟩ := live_entry h
  decide

theorem live_renewalSound : live.RenewalSound := by
  refine ⟨?_, ?_⟩
  · intro l e h
    obtain ⟨rfl, rfl⟩ := live_entry h
    exact ⟨Or.inl rfl, by decide⟩
  · intro j h content k
    rw [List.mem_singleton.mp h] at k
    cases k

theorem live_epochsSound : live.EpochsSound := by
  intro l
  refine ⟨?_, ?_⟩
  · intro a b x y hx hy _
    rw [(live_slot hx).2.1, (live_slot hy).2.1]
  · intro e h _
    obtain ⟨rfl, rfl⟩ := live_entry h
    refine ⟨?_, ?_, ?_⟩
    · intro n c hn
      cases hn
    · intro c p _ hp
      cases hp
    · intro hc
      cases hc

theorem live_rootsSound : live.RootsSound := by
  refine ⟨?_, ?_, List.nodup_nil, ?_, ?_, ?_, ?_⟩
  · intro e
    rw [live_root]
    split <;> (unfold RootEntry.Sound; decide)
  · intro w h
    cases h
  · intro e
    rw [live_root]
    split <;> decide
  · intro j h e c k
    rw [List.mem_singleton.mp h] at k
    cases k
  · intro l j h
    by_cases near : l = 3
    · subst l
      cases h
    · have none : live.jobList l = [] := by
        simp [State.jobList, live, jobOf, Ne.symm near]
      rw [none] at h
      cases h
  · intro l j e h k
    have only : j = jobOf beatWork .waiting := List.mem_singleton.mp (List.mem_of_find?_eq_some h)
    rw [only] at k
    cases k

/-- The premises of the invariants' statements, and of `CountersNeverFall` and `RequestsKeptInAccount`, meet in `live`,
which takes a step. -/
theorem witness_invariants :
    (live.WithinSizes ∧ live.SlotsSound ∧ live.BindingsSound ∧ live.NoticesSound ∧ live.SupervisionSound ∧
      live.RenewalSound ∧ live.EpochsSound ∧ live.RootsSound) ∧
    (∃ t, step live = .next t) ∧ live.pending = .tick :: [] ∧ (∀ bytes, Instr.tick ≠ .frameArrival bytes) ∧
    (∀ n, Instr.tick ≠ .readEnd n) :=
  ⟨⟨live_withinSizes, live_slotsSound, live_bindingsSound, live_noticesSound, live_supervisionSound, live_renewalSound,
    live_epochsSound, live_rootsSound⟩, ⟨_, rfl⟩, rfl, by simp, by simp⟩

theorem witness_NoticeModeSet :
    (asked 0x44 [4, 63] live).Takes (request 0x44 [4, byteOf (63 : Link).val]) [] ∧
    (asked 0x44 [4, 63] live).NoticesSound ∧
    (request 0x44 [4, 63]).body = (match NoticeMode.one 63 with
      | .all => [0] | .none => [1] | .low => [2] | .high => [3] | .one l => [4, byteOf l.val]) :=
  ⟨takes_asked _ _ _ rfl, ⟨live_noticesSound.1, live_noticesSound.2.1, live_noticesSound.2.2.1,
    List.Pairwise.nil, fun h => absurd rfl h⟩, rfl⟩

end Sys2Proof.Tests
end

section
/-! PROOFS. The protected records (chapter 1): the nonces of the two directions, and when a record verifies. -/

namespace Sys2Proof.Machine

open Sys2Proof

/-! ## Nonces (R6, R8, R9) -/

theorem nonceOf_outbound (role : Role) (salt : Salt) (n : Nat) :
    nonceOf salt role.outbound n = sentNonce role salt n := by
  cases role <;> simp [nonceOf, sentNonce, Role.outbound]

theorem nonceOf_inbound (role : Role) (salt : Salt) (n : Nat) :
    nonceOf salt role.inbound n = receivedNonce role salt n := by
  cases role <;> simp [nonceOf, receivedNonce, Role.inbound]

theorem nonce_direction (salt direction sequence : BitVec 32) :
    (salt ++ direction ++ sequence).getLsbD 63 = direction.msb := by
  rw [BitVec.getLsbD_append, BitVec.getLsbD_append]
  simp [BitVec.msb_eq_getLsbD_last]

/-- The top bit of the direction word tells the two directions of a link apart (R6). -/
theorem sentNonce_direction (role : Role) (salt : Salt) (n : Nat) :
    (sentNonce role salt n).getLsbD 63 = decide (role = .shop) :=
  (nonce_direction salt _ _).trans (by cases role <;> rfl)

theorem receivedNonce_direction (role : Role) (salt : Salt) (n : Nat) :
    (receivedNonce role salt n).getLsbD 63 = decide (role = .hub) :=
  (nonce_direction salt _ _).trans (by cases role <;> rfl)

theorem sentNonce_ne_receivedNonce (role : Role) (salt salt' : Salt) (n n' : Nat) :
    sentNonce role salt n ≠ receivedNonce role salt' n' := by
  intro same
  have direction := congrArg (·.getLsbD 63) same
  simp only [sentNonce_direction, receivedNonce_direction] at direction
  cases role <;> simp at direction

/-! ## Records that verify (R5, R7) -/

theorem State.openRecord_of_verifies {s : State} {key : Key} {nonce : Nonce} {r : List Byte}
    (h : s.Verifies key nonce r) :
    openRecord s.protections key nonce r = some (decipherBytes key nonce (field r 12 (r.length - 28))) :=
  (s.openSealed_eq key nonce _ _ _).1 h

theorem State.openRecord_of_not_verifies {s : State} {key : Key} {nonce : Nonce} {r : List Byte}
    (h : ¬ s.Verifies key nonce r) : openRecord s.protections key nonce r = none :=
  (s.openSealed_eq key nonce _ _ _).2 h

theorem beBytes_inj {w m n : Nat} (hm : m < 256 ^ w) (hn : n < 256 ^ w) (h : beBytes w m = beBytes w n) : m = n := by
  rw [← beNat_beBytes_of_lt hm, h, beNat_beBytes_of_lt hn]

/-- Sixteen bytes hold a whole tag, so equal tag bytes are equal tags. -/
theorem tagBytes_inj {key key' : Key} {nonce nonce' : Nonce} {header header' body body' : List Byte}
    (h : tagBytes key nonce header body = tagBytes key' nonce' header' body') :
    Config.tagOf key nonce header body = Config.tagOf key' nonce' header' body' := by
  have fits : ∀ t : RecordTag, t.toNat < 256 ^ 16 := fun t => by have := t.isLt; omega
  exact BitVec.eq_of_toNat_eq (beBytes_inj (fits _) (fits _) h)

/-- Of two genuine protections under one tag neither is another than the other: two origins outside the part are the one
the tag has, and a protection of the part is the only one of the part with its tag (R5). -/
theorem State.Genuine.unique {s : State} {p q : Protection} (hp : s.Genuine p) (hq : s.Genuine q)
    (tag : protectionTag p = protectionTag q) : p = q := by
  obtain ⟨madeP, onlyP⟩ := hp
  obtain ⟨madeQ, onlyQ⟩ := hq
  rcases madeP with outsideP | insideP
  · rcases madeQ with outsideQ | insideQ
    · rw [tag] at outsideP
      exact Option.some.inj (outsideP.symm.trans outsideQ)
    · exact (onlyP q insideQ tag.symm).symm
  · exact onlyQ p insideP tag

/-- A record of at least 28 bytes is its header, its body and its tag (R1). -/
theorem record_split {r : List Byte} (h : 28 ≤ r.length) :
    r = r.take 12 ++ field r 12 (r.length - 28) ++ r.drop (r.length - 16) := by
  have tag : r.drop (r.length - 16) = (r.drop 12).drop (r.length - 28) := by
    rw [List.drop_drop]; congr 1; omega
  rw [tag, field, List.append_assoc, List.take_append_drop, List.take_append_drop]

/-- The header and the body of a record lie before its tag (R1). -/
theorem record_untagged {r : List Byte} (h : 28 ≤ r.length) :
    r.take (r.length - 16) = r.take 12 ++ field r 12 (r.length - 28) := by
  rw [field, ← List.take_add]; congr 1; omega

theorem State.Verifies.eq_of_tag {s : State} {key key' : Key} {nonce nonce' : Nonce} {r r' : List Byte}
    (long : 28 ≤ r.length) (long' : 28 ≤ r'.length) (h : s.Verifies key nonce r) (h' : s.Verifies key' nonce' r')
    (tag : r.drop (r.length - 16) = r'.drop (r'.length - 16)) : key = key' ∧ nonce = nonce' ∧ r = r' := by
  obtain ⟨recomputed, genuine⟩ := h
  obtain ⟨recomputed', genuine'⟩ := h'
  have same := genuine.unique genuine' (tagBytes_inj (recomputed.trans (tag.trans recomputed'.symm)))
  obtain ⟨hkey, hnonce, hheader, hbody⟩ := Protection.mk.inj same
  refine ⟨hkey, hnonce, ?_⟩
  rw [record_split long, record_split long', hheader, hbody, tag]

theorem State.Verifies.eq_of_untagged {s : State} {key : Key} {nonce : Nonce} {r r' : List Byte}
    (long : 28 ≤ r.length) (long' : 28 ≤ r'.length) (h : s.Verifies key nonce r) (h' : s.Verifies key nonce r')
    (rest : r.take (r.length - 16) = r'.take (r'.length - 16)) : r = r' := by
  have lengths := congrArg List.length rest
  simp only [List.length_take] at lengths
  have length : r.length = r'.length := by omega
  rw [record_untagged long, record_untagged long'] at rest
  obtain ⟨header, body⟩ := List.append_inj rest (by simp [length])
  have tag : r.drop (r.length - 16) = r'.drop (r'.length - 16) := by rw [← h.1, ← h'.1, header, body]
  exact (h.eq_of_tag long long' h' tag).2.2

/-- A record this part protected verifies, if at all, under the key and nonce it was protected under (R5, R7). -/
theorem State.Verifies.of_protect {s : State} {key key' : Key} {nonce nonce' : Nonce} {header payload : List Byte}
    (h : header.length = 12) (made : protectionOf key nonce header payload ∈ s.protections)
    (v : s.Verifies key' nonce' (protect key nonce header payload)) : key' = key ∧ nonce' = nonce := by
  obtain ⟨length, head, body, tag⟩ := protect_parts key nonce header payload h
  obtain ⟨recomputed, -, only⟩ := v
  rw [show (protect key nonce header payload).length - 28 = payload.length by omega,
    show (protect key nonce header payload).length - 16 = 12 + payload.length by omega, head, body, tag] at recomputed
  rw [show (protect key nonce header payload).length - 28 = payload.length by omega, head, body] at only
  have same := only _ made (tagBytes_inj recomputed.symm)
  obtain ⟨hkey, hnonce, -, -⟩ := Protection.mk.inj same
  exact ⟨hkey.symm, hnonce.symm⟩

/-- Settles O34: two genuine protections under one tag are one, and a record's parts are read back from its bytes. -/
theorem recordsVerifyOnlyAsProtected : Obligations.RecordsVerifyOnlyAsProtected := by
  unfold Obligations.RecordsVerifyOnlyAsProtected
  refine ⟨?_, ?_, ?_, ?_, ?_⟩
  · rintro s key nonce r ⟨recomputed, made, -⟩
    exact ⟨recomputed.symm, made⟩
  · intro s key nonce key' nonce' r r' long long' h h' tag
    exact h.eq_of_tag long long' h' tag
  · intro s key nonce r r' long long' h h' rest
    exact h.eq_of_untagged long long' h' rest
  · intro role salt n salt' n'
    exact sentNonce_ne_receivedNonce role salt salt' n n'
  · intro s key nonce header payload h made
    refine ⟨?_, ?_, ?_⟩
    · intro key' nonce' other v
      obtain ⟨rfl, rfl⟩ := v.of_protect h made
      exact other rfl
    · intro role salt n salt' n' key' sent v
      have back := (v.of_protect h made).2
      exact sentNonce_ne_receivedNonce role salt salt' n n' (sent.symm.trans back.symm)
    · intro only
      exact protect_verifies s key nonce header payload h ⟨.inr made, only⟩

end Sys2Proof.Machine
end

section
/-! PROOFS. The completions of the record engine (chapter 4): the jobs of a lane and what each leaves behind. -/

namespace Sys2Proof.Machine

open Sys2Proof

/-! ## The completions as commands -/

section Commands

variable {s : State} {lane : Lane}

theorem exec_encipherCompletion (h : s.operating = true) :
    exec (.encipherCompletion lane) s = .next (s.completeEncipher lane) :=
  act_next (f := (State.completeEncipher · lane)) h

theorem exec_trafficDecipherCompletion (h : s.operating = true) :
    exec (.trafficDecipherCompletion lane) s = .next (s.completeTraffic lane) :=
  act_next (f := (State.completeTraffic · lane)) h

theorem exec_rootDecipherCompletion (h : s.operating = true) :
    exec (.rootDecipherCompletion lane) s = .next (s.completeRoot lane) :=
  act_next (f := (State.completeRoot · lane)) h

theorem exec_controlJobCompletion (h : s.operating = true) :
    exec (.controlJobCompletion lane) s = .next (s.completeControl lane) :=
  act_next (f := (State.completeControl · lane)) h

end Commands

/-! ## The job of a lane -/

section InLane

variable {s t : State} {lane : Lane} {before after : List Job} {j : Job}

/-- What a completion does before it leaves its lane does not move the pool. -/
theorem State.InLane.finishLane (h : s.InLane lane before j after) (l : Link) (pool : t.pool = s.pool) :
    t.finishLane lane l = ({ t with pool := before ++ after }.settleFirst l).serveFreed := by
  have same : t.InLane lane before j after := by rwa [State.InLane, pool]
  rw [State.finishLane, same.removeLane]

end InLane

/-! ## Records made (R8, R9, R60, R66) -/

theorem trafficSeal_eq (e : LinkEntry) (kind : RecordKind) (slot : SlotBinding) (sequence : Nat)
    (payload : List Byte) :
    trafficSeal e kind slot sequence payload =
      { key := slot.key, nonce := sentNonce e.role slot.salt sequence
        header := headerBytes kind slot.epoch e.shopNumber sequence payload.length, payload := payload } := by
  rw [trafficSeal, nonceOf_outbound]

theorem rootNonce_outbound (role : Role) (n : Nat) : rootNonce role.outbound n = sentNonce role 0#32 n :=
  nonceOf_outbound role 0#32 n

theorem rootNonce_inbound (role : Role) (n : Nat) : rootNonce role.inbound n = receivedNonce role 0#32 n :=
  nonceOf_inbound role 0#32 n

theorem rootSeal_eq (e : LinkEntry) (kind : RecordKind) (root : RootBinding) (counter : Nat) (plaintext : List Byte) :
    rootSeal e kind root counter plaintext =
      { key := root.key, nonce := sentNonce e.role 0#32 counter
        header := headerBytes kind 0 e.shopNumber counter plaintext.length, payload := plaintext } := by
  rw [rootSeal, rootNonce_outbound]

/-! ## ENCIPHER completes (R60) -/

theorem State.InLane.completeEncipher {s : State} {lane : Lane} {before after : List Job} {j : Job} {e : LinkEntry}
    {tag : Byte} {slot : SlotBinding} {sequence : Nat} {payload : List Byte} (h : s.InLane lane before j after)
    (entry : s.entry j.link = some e) (work : j.work = .encipher tag slot sequence payload) :
    s.completeEncipher lane =
      let x := trafficSeal e .data slot sequence payload
      ((s.sealing x).place (encipheredReply tag j.link slot sequence x)).finishLane lane j.link := by
  simp [State.completeEncipher, h.laneJob, entry, work]

/-- Settles O35: the seal and the reply leave the pool as it was, and the job of the lane leaves it. -/
theorem encipherCompletes : Obligations.EncipherCompletes := by
  unfold Obligations.EncipherCompletes
  intro s lane before j after e tag slot sequence payload operating h entry work
  rw [exec_encipherCompletion operating, h.completeEncipher entry work]
  dsimp only
  rw [trafficSeal_eq, h.finishLane] <;> rfl

/-! ## A control job completes (R66) -/

theorem State.InLane.completeControl {s : State} {lane : Lane} {before after : List Job} {j : Job} {e : LinkEntry}
    {kind : RecordKind} {x : Seal} (h : s.InLane lane before j after) (entry : s.entry j.link = some e)
    (sealed : controlSeal e j.work = some (kind, x)) :
    s.completeControl lane = ({ s with
      pool := before ++ after
      renewals := s.renewals.put j.link ((s.renewal j.link).emitted j.work e.policy.offerTicks)
      protections := s.protections ++ [x.protection]
      output := s.output ++ [emitOf j.link kind.code x.record] }.settleFirst j.link).serveFreed := by
  simp only [State.completeControl, h.laneJob, entry, sealed]
  rw [h.finishLane] <;> rfl

/-- Only an OFFER or ASK loads a timer at its emission (R94, R98). -/
theorem RenewalContext.emitted_traffic {work : Work} (offer : work.isOffer = false) (ask : work.isAsk = false)
    (c : RenewalContext) (ticks : Nat) : c.emitted work ticks = c := by
  simp [RenewalContext.emitted, offer, ask]

theorem RenewalContext.emitted_offer (c : RenewalContext) (root : RootBinding) (text : OfferText) (x : CounterClaim)
    (ticks : Nat) : c.emitted (.offer root text x) ticks =
      if c.state = .offered then { c with stepTimer := .running ticks } else c := by
  simp [RenewalContext.emitted, Work.isOffer, Work.isAsk]

theorem RenewalContext.emitted_ask (c : RenewalContext) (root : RootBinding) (reason : Reason) (x : CounterClaim)
    (ticks : Nat) : c.emitted (.ask root reason x) ticks =
      if c.state = .asked then { c with stepTimer := .running ticks } else c := by
  simp [RenewalContext.emitted, Work.isOffer, Work.isAsk]

/-- Settles O39, by the four kinds of control job. -/
theorem controlJobEmits : Obligations.ControlJobEmits := by
  unfold Obligations.ControlJobEmits
  intro s lane before j after e operating h entry
  rw [exec_controlJobCompletion operating]
  refine ⟨?beat, ?proof, ?offer, ?ask⟩
  case beat =>
    intro slot n work
    have sealed : controlSeal e j.work = some (.beat, trafficSeal e .beat slot n []) := by rw [work]; rfl
    rw [h.completeControl entry sealed, trafficSeal_eq, work, RenewalContext.emitted_traffic rfl rfl]
    rfl
  case proof =>
    intro slot n work
    have sealed : controlSeal e j.work = some (.proof, trafficSeal e .proof slot n []) := by rw [work]; rfl
    rw [h.completeControl entry sealed, trafficSeal_eq, work, RenewalContext.emitted_traffic rfl rfl]
    rfl
  case offer =>
    intro root text n work
    have sealed : controlSeal e j.work = some (.offer, rootSeal e .offer root n text.bytes) := by rw [work]; rfl
    rw [h.completeControl entry sealed, rootSeal_eq, work, RenewalContext.emitted_offer]
    rfl
  case ask =>
    intro root reason n work
    have sealed : controlSeal e j.work = some (.ask, rootSeal e .ask root n [reason.code]) := by rw [work]; rfl
    rw [h.completeControl entry sealed, rootSeal_eq, work, RenewalContext.emitted_ask]
    rfl

/-! ## A root record completes (R63, R82) -/

section Root

variable {s : State} {lane : Lane} {before after : List Job} {j : Job} {e : LinkEntry} {tag : Byte}
  {root : RootBinding} {record : List Byte}

theorem State.InLane.completeRoot_drop {k : FaultKind} (h : s.InLane lane before j after)
    (entry : s.entry j.link = some e) (work : j.work = .decipherRoot tag root record)
    (judged : s.judgeRoot e root record = .drop k) :
    s.completeRoot lane =
      let u := s.occurrence j.link k (some 0) (some (recordSequence record))
      ({ u with
        pool := before ++ after
        output := u.output ++ [decipherReply tag j.link record (.dropped k.code)] }.settleFirst j.link).serveFreed := by
  have dropped : s.completeRoot lane = s.dropRoot lane j.link tag record k := by
    simp [State.completeRoot, h.laneJob, entry, work, judged]
  rw [dropped, State.dropRoot, h.finishLane]
  · rfl
  · exact (s.occurrence_frame j.link k _ _).pool

theorem State.InLane.completeRoot_hold {content : RootContent} (h : s.InLane lane before j after)
    (entry : s.entry j.link = some e) (work : j.work = .decipherRoot tag root record)
    (judged : s.judgeRoot e root record = .hold content) :
    s.completeRoot lane = ({ s with
      pool := before ++ { j with state := .held content } :: after
      roots := s.roots.put root.entry { s.root root.entry with inCounter := recordSequence record }
    }.requestWrite root.entry) := by
  have held : changeFirst (fun x => x.isIn lane) (fun x => { x with state := .held content }) s.pool =
      before ++ { j with state := .held content } :: after := by
    rw [h.1]
    exact changeFirst_of_split (by simp [Job.isIn, h.2.1]) fun x hx => by simp [Job.isIn, h.2.2 x hx]
  have holds : s.completeRoot lane = s.holdRoot lane root.entry record content := by
    simp [State.completeRoot, h.laneJob, entry, work, judged]
  rw [holds, State.holdRoot, held]
  rfl

end Root

/-! ## The judgement of a root record (R13, R14, R63, R82) -/

section Judgement

variable {s : State} {e : LinkEntry} {root : RootBinding} {record text : List Byte} {content : RootContent}

theorem State.openRecord_root (v : s.Verifies root.key (receivedNonce e.role 0#32 (recordSequence record)) record) :
    openRecord s.protections root.key (rootNonce e.role.inbound (recordSequence record)) record =
      some (decipherBytes root.key (receivedNonce e.role 0#32 (recordSequence record))
        (field record 12 (record.length - 28))) := by
  rw [rootNonce_inbound, State.openRecord_of_verifies v]

theorem State.judgeRoot_tag (v : ¬ s.Verifies root.key (receivedNonce e.role 0#32 (recordSequence record)) record) :
    s.judgeRoot e root record = .drop .tag := by
  unfold State.judgeRoot
  simp only [rootNonce_inbound, State.openRecord_of_not_verifies v]

theorem State.judgeRoot_form
    (opened : openRecord s.protections root.key (rootNonce e.role.inbound (recordSequence record)) record = some text)
    (unfit : rootContentOf e.role text = none) : s.judgeRoot e root record = .drop .form := by
  unfold State.judgeRoot
  simp only [opened, unfit]

theorem State.judgeRoot_replay
    (opened : openRecord s.protections root.key (rootNonce e.role.inbound (recordSequence record)) record = some text)
    (fit : rootContentOf e.role text = some content)
    (old : recordSequence record ≤ (s.root root.entry).inCounter) :
    s.judgeRoot e root record = .drop .rootReplay := by
  unfold State.judgeRoot
  simp only [opened, fit, old, if_true]

theorem State.judgeRoot_hold
    (opened : openRecord s.protections root.key (rootNonce e.role.inbound (recordSequence record)) record = some text)
    (fit : rootContentOf e.role text = some content)
    (fresh : (s.root root.entry).inCounter < recordSequence record) :
    s.judgeRoot e root record = .hold content := by
  unfold State.judgeRoot
  simp only [opened, fit, Nat.not_le.mpr fresh, if_false]

end Judgement

/-! ## Plaintexts (R13, R14) -/

theorem reasonOf_code (reason : Reason) : reasonOf reason.code = some reason := by cases reason <;> rfl

theorem reasonOf_eq_none_iff (b : Byte) : reasonOf b = none ↔ ¬ (1 ≤ b.toNat ∧ b.toNat ≤ 6) := by
  simp only [reasonOf, ite_eq_iff, reduceCtorEq, and_false, false_or, and_true, ← BitVec.toNat_inj]
  simp
  omega

theorem offerOf_eq_none_iff (p : List Byte) :
    offerOf p = none ↔ ¬ (1 ≤ (byteAt p 0).toNat ∧ (byteAt p 1).toNat ≤ 1) := by
  unfold offerOf
  split
  · simp; omega
  · simp; omega

theorem rootContentOf_shop {role : Role} {p : List Byte} (shop : role = .shop)
    (fits : 1 ≤ (byteAt p 0).toNat ∧ (byteAt p 1).toNat ≤ 1) :
    rootContentOf role p = some (.offer
      { epoch := (byteAt p 0).toNat, fresh := byteAt p 1 = 1,
        key := BitVec.ofNat 256 (beNat (field p 2 32)), salt := BitVec.ofNat 32 (beNat (field p 34 4)) }) := by
  rw [shop, rootContentOf, offerOf, if_neg (by omega)]
  rfl

theorem rootContentOf_hub {role : Role} {p : List Byte} {reason : Reason} (hub : role = .hub)
    (code : reason.code = byteAt p 0) : rootContentOf role p = some (.ask reason) := by
  rw [hub, rootContentOf, ← code, reasonOf_code]
  rfl

theorem rootContentOf_eq_none_iff (role : Role) (p : List Byte) : rootContentOf role p = none ↔
    (role = .shop ∧ ¬ (1 ≤ (byteAt p 0).toNat ∧ (byteAt p 1).toNat ≤ 1) ∨
      role = .hub ∧ ¬ (1 ≤ (byteAt p 0).toNat ∧ (byteAt p 0).toNat ≤ 6)) := by
  cases role
  · simp [rootContentOf, reasonOf_eq_none_iff]
  · simp [rootContentOf, offerOf_eq_none_iff]

/-- Settles O38, by the judgement of the record. -/
theorem rootRecordJudged : Obligations.RootRecordJudged := by
  unfold Obligations.RootRecordJudged
  intro s lane before j after e tag root record operating h entry work nonce verifies text dropped held fresh offerFits
    askFits
  have drop : ∀ fault, s.judgeRoot e root record = .drop fault → dropped fault := by
    rintro fault judged u rfl
    rw [exec_rootDecipherCompletion operating, h.completeRoot_drop entry work judged]
    rfl
  have hold : ∀ content, s.judgeRoot e root record = .hold content → held content := by
    intro content judged
    exact (exec_rootDecipherCompletion operating).trans (congrArg _ (h.completeRoot_hold entry work judged))
  refine ⟨fun v => drop _ (State.judgeRoot_tag v), ?form, ?replay, ?offer, ?ask⟩
  case form =>
    intro v unfit
    exact drop _ (State.judgeRoot_form (State.openRecord_root v) ((rootContentOf_eq_none_iff _ _).mpr unfit))
  case replay =>
    intro v fits stale
    have fit : rootContentOf e.role text ≠ none := by
      rw [Ne, rootContentOf_eq_none_iff]
      rcases fits with ⟨role, fits⟩ | ⟨role, fits⟩ <;> simpa [role] using fits
    obtain ⟨content, fit⟩ := Option.ne_none_iff_exists'.mp fit
    exact drop _ (State.judgeRoot_replay (State.openRecord_root v) fit (Nat.not_lt.mp stale))
  case offer =>
    intro v role fits new
    exact hold _ (State.judgeRoot_hold (State.openRecord_root v) (rootContentOf_shop role fits) new)
  case ask =>
    intro v role fits new reason code
    exact hold _ (State.judgeRoot_hold (State.openRecord_root v) (rootContentOf_hub role code) new)

/-! ## The slot of a key set that a record finds (R16, R61) -/

section Find

variable {k : KeySet} {role : SlotRole} {x : KeySlot} {p : KeySlot → Bool}

theorem KeySet.holds_iff : k.holds role p = true ↔ ∃ x, k.slot role = some x ∧ p x = true := by
  simp [KeySet.holds, Option.any_eq_true]

theorem KeySet.find_of_only (here : k.slot role = some x) (fits : p x = true)
    (only : ∀ role' y, k.slot role' = some y → p y = true → role' = role) : k.find p = some role := by
  have holds : k.holds role p = true := KeySet.holds_iff.mpr ⟨x, here, fits⟩
  have elsewhere : ∀ role', role' ≠ role → k.holds role' p = false := by
    intro role' other
    rw [Bool.eq_false_iff, Ne, KeySet.holds_iff]
    rintro ⟨y, at', fits'⟩
    exact other (only role' y at' fits')
  cases role <;> simp [KeySet.find, holds, elsewhere]

theorem KeySet.find_eq_none (misses : ∀ role x, k.slot role = some x → p x = false) : k.find p = none := by
  have nowhere : ∀ role, k.holds role p = false := by
    intro role
    rw [Bool.eq_false_iff, Ne, KeySet.holds_iff]
    rintro ⟨x, here, fits⟩
    simp [misses role x here] at fits
  simp [KeySet.find, nowhere]

end Find

/-! ## The window (R46) -/

theorem Window.judge_late {w : Window} {n : Nat} (below : n + 63 < w.high) : w.judge n = .late := by
  rw [Window.judge, if_neg (by omega), if_pos below]

theorem Window.judge_duplicate {w : Window} {n : Nat} (le : n ≤ w.high) (near : w.high ≤ n + 63)
    (seen : n ∈ w.seen) : w.judge n = .duplicate := by
  rw [Window.judge, if_neg (by omega), if_neg (by omega), if_pos seen]

/-! ## The judgement of a traffic record (R16, R48, R62) -/

section Traffic

variable {s : State} {l : Link} {e : LinkEntry} {slot : SlotBinding} {record : List Byte} {role : SlotRole}
  {k : KeySlot}

theorem State.judgeTraffic_tag
    (v : ¬ s.Verifies slot.key (receivedNonce e.role slot.salt (recordSequence record)) record) :
    s.judgeTraffic l e slot record = (s.dropInbound l .tag record, .dropped FaultKind.tag.code) := by
  unfold State.judgeTraffic
  simp only [nonceOf_inbound, State.openRecord_of_not_verifies v]

theorem State.judgeTraffic_epoch
    (v : s.Verifies slot.key (receivedNonce e.role slot.salt (recordSequence record)) record)
    (lost : ((s.keySet l).find fun k => k.epoch == recordEpoch record && k.key == slot.key) = none) :
    s.judgeTraffic l e slot record = (s.dropInbound l .epoch record, .dropped FaultKind.epoch.code) := by
  unfold State.judgeTraffic
  simp only [nonceOf_inbound, State.openRecord_of_verifies v, lost]

variable (v : s.Verifies slot.key (receivedNonce e.role slot.salt (recordSequence record)) record)
  (found : ((s.keySet l).find fun k => k.epoch == recordEpoch record && k.key == slot.key) = some role)
  (here : (s.keySet l).slot role = some k)

include v found here

theorem State.judgeTraffic_late (judged : k.window.judge (recordSequence record) = .late) :
    s.judgeTraffic l e slot record = (s.dropInbound l .late record, .dropped FaultKind.late.code) := by
  unfold State.judgeTraffic
  simp only [nonceOf_inbound, State.openRecord_of_verifies v, found, here, judged]

theorem State.judgeTraffic_strict (judged : k.window.judge (recordSequence record) = .duplicate)
    (policy : e.policy.duplicates = .strict) :
    s.judgeTraffic l e slot record = (s.dropInbound l .replay record, .dropped FaultKind.replay.code) := by
  unfold State.judgeTraffic
  simp only [nonceOf_inbound, State.openRecord_of_verifies v, found, here, judged, State.dropDuplicate, policy,
    duplicateOutcome]

theorem State.judgeTraffic_tolerant (judged : k.window.judge (recordSequence record) = .duplicate)
    (policy : e.policy.duplicates = .tolerant) :
    s.judgeTraffic l e slot record = (s.toleratedDuplicate l, .dropped duplicateReason) := by
  unfold State.judgeTraffic
  simp only [nonceOf_inbound, State.openRecord_of_verifies v, found, here, judged, State.dropDuplicate, policy,
    duplicateOutcome]

end Traffic

theorem State.InLane.completeTraffic {s t : State} {lane : Lane} {before after : List Job} {j : Job} {e : LinkEntry}
    {tag : Byte} {slot : SlotBinding} {record : List Byte} {outcome : DecipherOutcome}
    (h : s.InLane lane before j after) (entry : s.entry j.link = some e)
    (work : j.work = .decipherTraffic tag slot record)
    (judged : s.judgeTraffic j.link e slot record = (t, outcome)) :
    s.completeTraffic lane = (t.place (decipherReply tag j.link record outcome)).finishLane lane j.link := by
  simp only [State.completeTraffic, h.laneJob, entry, work, judged]

/-- Settles O37, by the judgement of the record. -/
theorem trafficDropped : Obligations.TrafficDropped := by
  unfold Obligations.TrafficDropped
  intro s lane before j after e tag slot record operating h entry work verifies finds answered bad
  have drop : ∀ t reason, s.judgeTraffic j.link e slot record = (t, .dropped reason) →
      exec (.trafficDecipherCompletion lane) s = answered t reason := by
    intro t reason judged
    rw [exec_trafficDecipherCompletion operating, h.completeTraffic entry work judged]
    rfl
  refine ⟨fun v => drop _ _ (State.judgeTraffic_tag v), ?epoch, ?found⟩
  case epoch =>
    intro v other
    refine drop _ _ (State.judgeTraffic_epoch v (KeySet.find_eq_none fun role x here => ?_))
    simpa using other role x here
  case found =>
    rintro role k v ⟨here, epoch, key, only⟩
    have found : ((s.keySet j.link).find fun k => k.epoch == recordEpoch record && k.key == slot.key) = some role :=
      KeySet.find_of_only here (by simp [epoch, key]) fun role' x here' fits =>
        only role' x here' (by simp at fits; exact fits.1)
    refine ⟨fun below => drop _ _ (State.judgeTraffic_late v found here (Window.judge_late below)), ?_⟩
    intro le near seen
    have judged := Window.judge_duplicate le near seen
    exact ⟨fun policy => drop _ _ (State.judgeTraffic_strict v found here judged policy),
      fun policy => drop _ _ (State.judgeTraffic_tolerant v found here judged policy)⟩

end Sys2Proof.Machine
end

section
/-! PROOFS. The requests of a round (chapter 6) and DECIPHER (R15, R61). -/

namespace Sys2Proof.Machine

open Sys2Proof

/-! ## The requests of a round (R13, R18, R20, R93, R95, R97, R98) -/

theorem State.controlRoom_of_not {s : State} (h : ¬ (s.pool.length < 32 ∧ s.unsolicitedInUse < 16)) :
    s.controlRoom = false := by
  rwa [Bool.eq_false_iff, Ne, State.controlRoom_iff]

section Round

variable {s : State} {l : Link} {e : LinkEntry} {contents : RootContents} {root : RootBinding}

theorem State.rootBinding_eq (entry : s.entry l = some e) (occupied : (s.root e.rootEntry).contents = some contents) :
    s.rootBinding l = some { entry := e.rootEntry, key := contents.key } := by
  simp [State.rootBinding, entry, occupied]

theorem State.createNext_eq (entry : s.entry l = some e) :
    s.createNext l = { s with
      draws := s.draws + 1
      keys := s.keys.put l { s.keySet l with
        next := some (newSlot e.policy (s.keySet l).offerEpoch (Config.randomKey s.draws) (Config.randomSalt s.draws)
          s.tickCount) } } := by
  simp [State.createNext, entry, State.setKeys]

theorem State.appendOffer_eq {k : KeySet} {n : KeySlot} (bound : s.rootBinding l = some root) (keys : s.keySet l = k)
    (next : k.next = some n) :
    s.appendOffer l = s.append (waitingJob l (.offer root
      { epoch := n.epoch, fresh := k.current.isNone, key := n.key, salt := n.salt } .unasked)) := by
  subst keys
  simp [State.appendOffer, bound, next, waitingJob]

theorem State.appendAsk_eq {reason : Reason} (bound : s.rootBinding l = some root)
    (round : (s.renewal l).roundReason = some reason) :
    s.appendAsk l = s.append (waitingJob l (.ask root reason .unasked)) := by
  simp [State.appendAsk, bound, round, waitingJob]

end Round

/-- Settles O25: what each request appends, and, for a hub's first OFFER, the NEXT it appends it for. -/
theorem roundRequests : Obligations.RoundRequests := by
  unfold Obligations.RoundRequests
  intro s l e root entry occupied c k binding room epoch slot offer owing
  have bound : s.rootBinding l = some binding := State.rootBinding_eq entry occupied
  refine ⟨?refused, ?first, ?retried, ?asked⟩
  case refused =>
    intro full
    have noRoom := State.controlRoom_of_not full
    rw [State.requestOffer, State.requestAsk, State.retryOffer, State.retryAsk, noRoom]
    exact ⟨rfl, rfl, rfl, rfl⟩
  case first =>
    intro free
    have created := State.createNext_eq entry
    have same : newSlot e.policy (s.keySet l).offerEpoch (Config.randomKey s.draws) (Config.randomSalt s.draws)
        s.tickCount = slot := by
      simp only [newSlot, slot, epoch, KeySet.offerEpoch, k]
      cases (s.keySet l).current <;> rfl
    rw [same] at created
    have appended := State.appendOffer_eq (s := s.createNext l) (root := binding) (n := slot)
      (k := { k with next := some slot }) (by rw [created]; exact bound)
      (by rw [created]; exact State.keySet_setKeys_same s l _) rfl
    rw [State.requestOffer, if_pos (s.controlRoom_iff.mpr free), appended, created]
    rfl
  case retried =>
    intro n free next
    rw [State.retryOffer, if_pos (s.controlRoom_iff.mpr free), State.appendOffer_eq bound rfl next]
    rfl
  case asked =>
    intro reason free round
    rw [State.requestAsk, State.retryAsk, if_pos (s.controlRoom_iff.mpr free), if_pos (s.controlRoom_iff.mpr free),
      State.appendAsk_eq bound round]
    exact ⟨rfl, rfl⟩

/-! ## The header checks (R1, R2, R15) -/

/-- The unknown kinds are 0 and those above 5 (R1). -/
theorem recordKindOf_eq_none_iff (b : Byte) : recordKindOf b = none ↔ b.toNat = 0 ∨ 5 < b.toNat := by
  simp only [recordKindOf, ite_eq_iff, reduceCtorEq, and_false, false_or, and_true, ← BitVec.toNat_inj]
  simp
  omega

theorem recordKindOf_eq_some {b : Byte} {kind : RecordKind} (h : recordKindOf b = some kind) : b = kind.code := by
  unfold recordKindOf at h
  split_ifs at h <;> cases h <;> assumption

/-- OFFER and ASK are the root kinds, by their codes 4 and 5 (R1, R2). -/
theorem isRoot_recordKindOf_iff (b : Byte) :
    (recordKindOf b).any RecordKind.isRoot = true ↔ b.toNat = 4 ∨ b.toNat = 5 := by
  cases h : recordKindOf b with
  | none =>
    rw [recordKindOf_eq_none_iff] at h
    simp
    omega
  | some kind =>
    rw [recordKindOf_eq_some h]
    cases kind <;> simp [RecordKind.isRoot, RecordKind.code]

/-- Each kind of record fixes its code, its class, its length and the roles it may reach, so the checks are compared
kind by kind (R15). -/
theorem headerMalformed_iff (role : Role) (shop : BitVec 32) (r : List Byte) :
    headerMalformed role shop r = true ↔ Malformed role shop r := by
  unfold headerMalformed Malformed
  cases h : recordKindOf (recordKindByte r) with
  | none =>
    rw [recordKindOf_eq_none_iff] at h
    simp [h]
  | some kind =>
    rw [recordKindOf_eq_some h]
    cases kind <;> cases role <;>
      simp [RecordKind.isRoot, RecordKind.code, RecordKind.mayReach, RecordKind.fixedLength, or_assoc]

/-! ## A record dropped at its header check (R15, R142) -/

/-- The epoch the occurrence of a header drop carries: that of a whole header (R15). -/
def headerEpoch (record : List Byte) : Option Nat := if 12 ≤ record.length then some (recordEpoch record) else none

/-- The sequence the occurrence of a header drop carries (R15). -/
def headerSequence (record : List Byte) : Option Nat :=
  if 12 ≤ record.length then some (recordSequence record) else none

section HeaderDrop

variable {s : State} {r : Request} {l : Link} {e : LinkEntry} {record : List Byte} {k : FaultKind}

theorem State.dropAtHeader_root (root : (recordKindOf (recordKindByte record)).any RecordKind.isRoot = true) :
    s.dropAtHeader r l e record k =
      ((s.occurrence l k (headerEpoch record) (headerSequence record)).place
        (decipherReply r.tag l record (.dropped k.code))).serveFreed := by
  simp only [State.dropAtHeader, root, if_true]
  rfl

theorem State.dropAtHeader_traffic (traffic : (recordKindOf (recordKindByte record)).any RecordKind.isRoot = false)
    (keeps : e.losesLock = false) :
    s.dropAtHeader r l e record k =
      (((s.occurrence l k (headerEpoch record) (headerSequence record)).badVerdict l).place
        (decipherReply r.tag l record (.dropped k.code))).serveFreed := by
  simp only [State.dropAtHeader, traffic, keeps, Bool.false_eq_true, if_false]
  rfl

/-- Where the verdict loses lock, either of the two reports may be the first (R142). -/
theorem State.dropAtHeader_losesLock (traffic : (recordKindOf (recordKindByte record)).any RecordKind.isRoot = false)
    (loses : e.losesLock = true) :
    s.dropAtHeader r l e record k =
      (((s.chosen.occurrence l k (headerEpoch record) (headerSequence record)).badVerdict l).place
        (decipherReply r.tag l record (.dropped k.code))).serveFreed ∨
    s.dropAtHeader r l e record k =
      (((s.chosen.badVerdict l).occurrence l k (headerEpoch record) (headerSequence record)).place
        (decipherReply r.tag l record (.dropped k.code))).serveFreed := by
  simp only [State.dropAtHeader, traffic, loses, Bool.false_eq_true, if_false, if_true]
  split
  · exact .inl rfl
  · exact .inr rfl

end HeaderDrop

/-! ## DECIPHER taken (R15, R30, R61) -/

section Header

variable {s : State} {r : Request} {l : Link} {e : LinkEntry} {record : List Byte}

theorem State.checkHeader_malformed (malformed : Malformed e.role e.shopNumber record) :
    s.checkHeader r l e record = s.dropAtHeader r l e record .form := by
  rw [State.checkHeader, if_pos ((headerMalformed_iff _ _ _).mpr malformed)]

variable (sound : ¬ Malformed e.role e.shopNumber record)

include sound

theorem State.checkHeader_root {root : RootBinding} (kind : 4 ≤ (recordKindByte record).toNat)
    (bound : s.rootBinding l = some root) :
    s.checkHeader r l e record = s.acceptDecipher r l (.decipherRoot r.tag root record) := by
  have isRoot : (recordKindByte record).toNat = 4 ∨ (recordKindByte record).toNat = 5 := by
    unfold Malformed at sound
    omega
  rw [State.checkHeader, if_neg ((headerMalformed_iff _ _ _).not.mpr sound),
    if_pos ((isRoot_recordKindOf_iff _).mpr isRoot)]
  simp only [bound]

theorem State.checkHeader_epoch (kind : (recordKindByte record).toNat ≤ 3)
    (lost : ((s.keySet l).find fun k => k.epoch == recordEpoch record) = none) :
    s.checkHeader r l e record = s.dropAtHeader r l e record .epoch := by
  rw [State.checkHeader, if_neg ((headerMalformed_iff _ _ _).not.mpr sound),
    if_neg ((isRoot_recordKindOf_iff _).not.mpr (by omega))]
  simp only [lost]

theorem State.checkHeader_traffic {role : SlotRole} {k : KeySlot} (kind : (recordKindByte record).toNat ≤ 3)
    (found : ((s.keySet l).find fun k => k.epoch == recordEpoch record) = some role)
    (here : (s.keySet l).slot role = some k) :
    s.checkHeader r l e record = s.acceptDecipher r l (.decipherTraffic r.tag (k.binding role) record) := by
  rw [State.checkHeader, if_neg ((headerMalformed_iff _ _ _).not.mpr sound),
    if_neg ((isRoot_recordKindOf_iff _).not.mpr (by omega))]
  simp only [found, here]

end Header

theorem exec_decipher {s : State} {r : Request} {rest : List Request} {l : Link} {e : LinkEntry} {h k : Byte}
    {record : List Byte} (takes : s.Takes r rest) (kind : r.kind = 0x31)
    (body : r.body = byteOf l.val :: h :: k :: record) (length : beNat [h, k] = record.length)
    (entry : s.entry l = some e) :
    exec .decipher s = .next ({ s with requests := rest }.checkHeader r l e record) := by
  have attached : { s with requests := rest }.attachedLink (byteOf l.val) = some (l, e) :=
    State.attachedLink_byteOf entry
  refine (takes_next (f := takeDecipher) takes kind).trans ?_
  simp only [takeDecipher, body, decipherBodyOf, length, if_true, attached]

theorem State.acceptDecipher_room {s : State} (room : s.hostJobs < 28 ∧ s.pool.length < 32) (r : Request) (l : Link)
    (work : Work) : s.acceptDecipher r l work = { s with pool := s.pool ++ [waitingJob l work] } := by
  rw [State.acceptDecipher, if_pos (s.hostRoom_iff.mpr room)]
  rfl

theorem State.acceptDecipher_full {s : State} (full : ¬ (s.hostJobs < 28 ∧ s.pool.length < 32)) (r : Request)
    (l : Link) (work : Work) :
    s.acceptDecipher r l work = { s with output := s.output ++ [answerOf r [0x18, byteOf l.val]] } := by
  rw [State.acceptDecipher, if_neg (s.hostRoom_iff.not.mpr full)]
  rfl

/-- The reply to a record dropped at its header (R175). -/
theorem decipherReply_answerOf {r : Request} (kind : r.kind = 0x31) (l : Link) (record : List Byte) (reason : Nat) :
    decipherReply r.tag l record (.dropped reason) = answerOf r
      ([0x00, byteOf l.val, 0x02, byteOf reason, recordKindByte record, recordEpochByte record] ++
        recordSequenceBytes record) := by
  rw [answerOf, kind]
  rfl

/-- Settles O32, by the header checks in their order. -/
theorem decipherTaken : Obligations.DecipherTaken := by
  unfold Obligations.DecipherTaken
  intro s r rest l e h k record takes requestKind body length entry u kind long epoch sequence room dropped drops
  have next : exec .decipher s = .next (u.checkHeader r l e record) :=
    exec_decipher takes requestKind body length entry
  have isRoot := isRoot_recordKindOf_iff (recordKindByte record)
  have drop : ∀ fault, u.checkHeader r l e record = u.dropAtHeader r l e record fault → drops fault := by
    intro fault judged
    have answered : ∀ v : State, u.dropAtHeader r l e record fault =
        (v.place (decipherReply r.tag l record (.dropped fault.code))).serveFreed →
        exec .decipher s = .next (dropped v fault) := by
      intro v left
      rw [next, judged, left, decipherReply_answerOf requestKind]
      rfl
    refine ⟨fun root => answered _ (State.dropAtHeader_root (isRoot.mpr root)), ?keeps, ?loses⟩
    case keeps =>
      intro notOffer notAsk keeps
      have traffic := Bool.eq_false_iff.mpr (isRoot.not.mpr (not_or.mpr ⟨notOffer, notAsk⟩))
      exact answered _ (State.dropAtHeader_traffic traffic keeps)
    case loses =>
      intro notOffer notAsk loses v
      have traffic := Bool.eq_false_iff.mpr (isRoot.not.mpr (not_or.mpr ⟨notOffer, notAsk⟩))
      exact (State.dropAtHeader_losesLock traffic loses).imp (answered _) (answered _)
  refine ⟨fun malformed => drop _ (State.checkHeader_malformed malformed), ?epoch, ?traffic, ?root⟩
  case epoch =>
    intro sound traffic other
    refine drop _ (State.checkHeader_epoch sound traffic (KeySet.find_eq_none fun role x here => ?_))
    simpa using other role x here
  case traffic =>
    intro sound traffic role x here fits only
    have found : ((u.keySet l).find fun k => k.epoch == recordEpoch record) = some role :=
      KeySet.find_of_only here (by simp [fits]) fun role' y here' fits' => only role' y here' (by simpa using fits')
    have accepted := State.checkHeader_traffic (s := u) (r := r) sound traffic found here
    rw [next, accepted]
    exact ⟨fun room => congrArg _ (State.acceptDecipher_room (s := u) room r l _),
      fun full => congrArg _ (State.acceptDecipher_full (s := u) full r l _)⟩
  case root =>
    intro sound root c occupied
    have bound : u.rootBinding l = some { entry := e.rootEntry, key := c.key } :=
      State.rootBinding_eq (s := u) entry occupied
    have accepted := State.checkHeader_root (s := u) (r := r) sound root bound
    rw [next, accepted]
    exact ⟨fun room => congrArg _ (State.acceptDecipher_room (s := u) room r l _),
      fun full => congrArg _ (State.acceptDecipher_full (s := u) full r l _)⟩

end Sys2Proof.Machine
end

section
/-! PROOFS. What one step can do to what a link holds: its link table entry, its key set and its renewal context. Every
shared operation is a run of a few sorts of moves of these holdings and makes no record HELD (`State.Evolves`), and a step
is such a run, or one that begins with an ATTACH or an OFFER installed, or one with a promotion on its way
(`State.Runs`, `step_runs`). An invariant of the holdings is then kept by every step once it is kept by the moves
(`Course.keeps`). -/

namespace Sys2Proof.Machine

open Sys2Proof

/-! ## Holdings and their moves -/

/-- What a link holds in the link table, the key table and the renewal controller. -/
structure Holding where
  entry : Option LinkEntry
  keys : KeySet
  renewal : RenewalContext

/-- What a link holds in a state. -/
def State.holding (s : State) (l : Link) : Holding :=
  { entry := s.entry l, keys := s.keySet l, renewal := s.renewal l }

/-- What a CLOSED link holds (R114). -/
def Holding.closed : Holding := { entry := none, keys := KeySet.empty, renewal := RenewalContext.initial }

/-- A key slot is used: it protects a record it has room for, takes a sequence its window accepts, or is marked at the
soft crossing (R38, R42, R43, R47). -/
inductive KeySlot.Used (k : KeySlot) : KeySlot → Prop
  | protects (n) : k.canProtect n = true → k.Used (k.chargeOut n)
  | accepts (n q) : k.window.judge q = .accepted →
      k.Used { k.chargeIn n with window := k.window.accept q }
  | crosses : k.Used { k with softCrossed := true }

/-- A link table entry after one event of the link supervisor, its link staying attached (R120 to R133). -/
inductive LinkEntry.Changed (e : LinkEntry) : LinkEntry → Prop
  | beat (timer) : e.Changed { e with beatTimer := timer }
  | policy (items outbound) : e.Changed (e.withPolicy items outbound)
  | tick : e.Changed e.tick
  | silent : e.silenceTimer = .expiring → e.Changed e.silent
  | loseLock : e.losesLock = true → e.Changed { e with state := .hunt, goodCount := 0, badCount := 0 }
  | bad : e.Changed e.bad
  | good : e.Changed e.good

/-- A renewal context moves on without preparing an OFFER, counting a retry, owing one or loading its renewal timer. -/
structure RenewalContext.Advances (c d : RenewalContext) : Prop where
  preparing : d.state = .preparing → c.state = .preparing
  tries : d.triesUsed = c.triesUsed ∨ d.triesUsed ≤ 1
  owed : d.retryOwed = true → c.retryOwed = true
  renewalTimer : d.renewalTimer = c.renewalTimer

/-- A retry of a round is due: it is owed, or tries remain (R95, R98). -/
def Holding.MayRetry (h : Holding) : Prop :=
  h.renewal.retryOwed = true ∨ ∃ e, h.entry = some e ∧ h.renewal.triesUsed < e.policy.offerTries

/-- The moves of what a link holds that any event can make. -/
inductive Move (h : Holding) : Holding → Prop
  | slot (role k k') : h.keys.slot role = some k → k.Used k' →
      Move h { h with keys := h.keys.withSlot role (some k') }
  | eraseNext : Move h { h with keys := { h.keys with next := none } }
  | createNext (e key salt tick) : h.entry = some e → h.renewal.state = .preparing →
      Move h { h with keys := { h.keys with next := some (newSlot e.policy h.keys.offerEpoch key salt tick) } }
  | graceExpires : Move h { h with keys := h.keys.erasePrevious }
  | entry (e e') : h.entry = some e → e.Changed e' → Move h { h with entry := some e' }
  | renewal (d) : h.renewal.Advances d → Move h { h with renewal := d }
  | prepare (e) : h.entry = some e → e.role = .hub →
      Move h { h with renewal := { h.renewal with
        state := .preparing, triesUsed := 0, retryOwed := false, stepTimer := .stopped, claimDue := false } }
  | retry : h.MayRetry →
      Move h { h with renewal := { h.renewal with triesUsed := h.renewal.triesUsed + 1, retryOwed := false } }
  | owe : h.MayRetry → Move h { h with renewal := { h.renewal with retryOwed := true } }
  | reload (ticks) : h.renewal.renewalTimer = .expiring →
      Move h { h with renewal := { h.renewal with renewalTimer := .running ticks } }
  | tick : Move h { entry := h.entry.map LinkEntry.tick, keys := h.keys.tick, renewal := h.renewal.tick }
  | close : Move h .closed

/-- Moves of what a link holds, one after another. -/
abbrev Moves : Holding → Holding → Prop := Relation.ReflTransGen Move

/-- A record is HELD on a link with this content (R63). -/
def State.Holds (s : State) (l : Link) (content : RootContent) : Prop :=
  ∃ j ∈ s.pool, j.link = l ∧ j.state = .held content

/-- From `s` to `t` what each link holds has made moves, and no record has become HELD. -/
structure State.Evolves (s t : State) : Prop where
  moves : ∀ l, Moves (s.holding l) (t.holding l)
  held : ∀ l content, t.Holds l content → s.Holds l content

variable {s t u : State} {l : Link}

theorem State.Evolves.refl (s : State) : s.Evolves s where
  moves _ := .refl
  held _ _ h := h

theorem State.Evolves.trans (h : s.Evolves t) (k : t.Evolves u) : s.Evolves u where
  moves l := (h.moves l).trans (k.moves l)
  held l content x := h.held l content (k.held l content x)

/-! ## Updates that move no holding -/

/-- Nothing the links hold has moved, and the jobs are those there were. -/
theorem State.Evolves.of_eq (keys : t.keys = s.keys) (links : t.links = s.links) (renewals : t.renewals = s.renewals)
    (pool : t.pool = s.pool) : s.Evolves t where
  moves l := by
    have same : t.holding l = s.holding l := by
      simp [State.holding, State.entry, State.keySet, State.renewal, keys, links, renewals]
    rw [same]
  held l content h := by rwa [State.Holds, pool] at h

theorem State.Evolves.since (h : u.Evolves t) (keys : u.keys = s.keys) (links : u.links = s.links)
    (renewals : u.renewals = s.renewals) (pool : u.pool = s.pool) : s.Evolves t :=
  .trans (.of_eq keys links renewals pool) h

theorem FaultFrame.evolves (h : FaultFrame s t) : s.Evolves t := .of_eq h.keys h.links h.renewals h.pool

/-- The pool alone has moved: each of its jobs is one there was or is not HELD. -/
theorem State.Evolves.of_pool (pool : List Job) (jobs : ∀ j ∈ pool, j ∈ s.pool ∨ ∀ content, j.state ≠ .held content) :
    s.Evolves { s with pool := pool } where
  moves _ := .refl
  held := by
    rintro l content ⟨j, hj, link, state⟩
    rcases jobs j hj with h | h
    · exact ⟨j, h, link, state⟩
    · exact absurd state (h content)

theorem State.place_evolves (s : State) (f : OutFrame) : s.Evolves (s.place f) := .of_eq rfl rfl rfl rfl

theorem State.chosen_evolves (s : State) : s.Evolves s.chosen := .of_eq rfl rfl rfl rfl

theorem State.sealing_evolves (s : State) (x : Seal) : s.Evolves (s.sealing x) := .of_eq rfl rfl rfl rfl

theorem State.setRoot_evolves (s : State) (e : EntryNo) (r : RootEntry) : s.Evolves (s.setRoot e r) :=
  .of_eq rfl rfl rfl rfl

theorem State.joinNvQueue_evolves (s : State) (e : EntryNo) : s.Evolves (s.joinNvQueue e) := by
  unfold State.joinNvQueue
  split
  · exact .refl s
  · exact .of_eq rfl rfl rfl rfl

theorem State.requestWrite_evolves (s : State) (e : EntryNo) : s.Evolves (s.requestWrite e) := by
  unfold State.requestWrite
  split
  · exact s.joinNvQueue_evolves e
  · split
    · exact .of_eq rfl rfl rfl rfl
    · exact s.joinNvQueue_evolves e

theorem State.raiseCeiling_evolves (s : State) (e : EntryNo) : s.Evolves (s.raiseCeiling e) := by
  unfold State.raiseCeiling
  split
  · exact (s.setRoot_evolves e _).trans (State.requestWrite_evolves _ e)
  · exact .refl s

theorem State.startWrite_evolves (s : State) : s.Evolves s.startWrite := by
  unfold State.startWrite
  split
  · exact .of_eq rfl rfl rfl rfl
  · exact .refl s
  · exact .refl s

theorem State.placeRootReplies_evolves (s : State) (e : EntryNo) : s.Evolves (s.placeRootReplies e) :=
  .of_eq rfl rfl rfl rfl

/-! ## Jobs -/

theorem mem_changeFirst {α : Type} {p : α → Bool} {f : α → α} {xs : List α} {y : α} (h : y ∈ changeFirst p f xs) :
    y ∈ xs ∨ ∃ x ∈ xs, p x = true ∧ y = f x := by
  induction xs with
  | nil => simp [changeFirst] at h
  | cons x rest ih =>
    unfold changeFirst at h
    split at h
    · rename_i px
      rcases List.mem_cons.mp h with rfl | h
      · exact .inr ⟨x, by simp, px, rfl⟩
      · exact .inl (by simp [h])
    · rcases List.mem_cons.mp h with rfl | h
      · exact .inl (by simp)
      · rcases ih h with h | ⟨z, hz, pz, rfl⟩
        · exact .inl (by simp [h])
        · exact .inr ⟨z, by simp [hz], pz, rfl⟩

theorem State.append_evolves (s : State) (l : Link) (work : Work) :
    s.Evolves (s.append { link := l, state := .waiting, work := work }) :=
  .of_pool _ fun j hj => by
    rcases List.mem_append.mp hj with h | h
    · exact .inl h
    · rw [List.mem_singleton.mp h]
      exact .inr fun content => nofun

theorem State.removeFirst_evolves (s : State) (l : Link) : s.Evolves (s.removeFirst l) :=
  .of_pool _ fun _ hj => .inl (List.mem_of_mem_eraseP hj)

theorem State.removeLane_evolves (s : State) (lane : Lane) : s.Evolves (s.removeLane lane) :=
  .of_pool _ fun _ hj => .inl (List.mem_of_mem_eraseP hj)

theorem State.withdraw_evolves (s : State) (l : Link) (sort : Work → Bool) : s.Evolves (s.withdraw l sort) :=
  .of_pool _ fun _ hj => .inl (List.mem_of_mem_filter hj)

theorem State.onFirst_claim_evolves (s : State) (l : Link) (c : CounterClaim) :
    s.Evolves (s.onFirst l (Job.withClaim c)) where
  moves _ := .refl
  held := by
    rintro m content ⟨j, hj, link, state⟩
    rcases mem_changeFirst hj with h | ⟨i, hi, -, rfl⟩
    · exact ⟨j, h, link, state⟩
    · exact ⟨i, hi, link, state⟩

theorem State.onFirst_lane_evolves (s : State) (l : Link) (lane : Lane) :
    s.Evolves (s.onFirst l fun j => { j with state := .inLane lane }) :=
  .of_pool _ fun j hj => by
    rcases mem_changeFirst hj with h | ⟨i, -, -, rfl⟩
    · exact .inl h
    · exact .inr fun content => nofun

/-! ## Updates that make one move -/

/-- One link has made a move. -/
theorem State.Evolves.of_move (move : Move (s.holding l) (t.holding l))
    (others : ∀ m, m ≠ l → t.holding m = s.holding m) (pool : t.pool = s.pool) : s.Evolves t where
  moves m := by
    by_cases h : m = l
    · subst h
      exact .single move
    · rw [others m h]
  held m content h := by rwa [State.Holds, pool] at h

theorem State.setKeys_evolves {k : KeySet} (move : Move (s.holding l) { s.holding l with keys := k }) :
    s.Evolves (s.setKeys l k) := by
  refine .of_move (l := l) ?_ (fun m hm => ?_) rfl
  · simpa [State.holding] using move
  · simp [State.holding, hm]

theorem State.onRenewal_evolves {f : RenewalContext → RenewalContext}
    (move : Move (s.holding l) { s.holding l with renewal := f (s.renewal l) }) : s.Evolves (s.onRenewal l f) := by
  refine .of_move (l := l) ?_ (fun m hm => ?_) rfl
  · simpa [State.holding] using move
  · simp [State.holding, hm]

theorem State.advance_evolves {f : RenewalContext → RenewalContext} (h : (s.renewal l).Advances (f (s.renewal l))) :
    s.Evolves (s.onRenewal l f) :=
  State.onRenewal_evolves (.renewal _ h)

theorem State.setEntry_evolves {e e' : LinkEntry} (entry : s.entry l = some e) (h : e.Changed e') :
    s.Evolves (s.setEntry l (some e')) := by
  refine .of_move (l := l) ?_ (fun m hm => ?_) rfl
  · simpa [State.holding] using Move.entry (h := s.holding l) e e' entry h
  · simp [State.holding, hm]

theorem State.onEntry_evolves {f : LinkEntry → LinkEntry} (h : ∀ e, s.entry l = some e → e.Changed (f e)) :
    s.Evolves (s.onEntry l f) := by
  unfold State.onEntry
  cases entry : s.entry l with
  | some e => exact State.setEntry_evolves entry (h e entry)
  | none =>
    have same : s.setEntry l none = s := by
      have : s.links.put l none = s.links := by
        ext m
        rw [Table.look_put]
        split
        · next h => rw [h, ← entry]; rfl
        · rfl
      simp [State.setEntry, this]
    rw [Option.map_none, same]
    exact .refl s

/-! ## The fault monitor and the owed set -/

theorem State.occurrence_evolves (s : State) (l : Link) (k : FaultKind) (epoch sequence : Option Nat) :
    s.Evolves (s.occurrence l k epoch sequence) :=
  (s.occurrence_frame l k epoch sequence).evolves

theorem State.serveOwed_evolves (s : State) : s.Evolves s.serveOwed := s.serveOwed_frame.evolves

theorem State.serveReleased_evolves (s : State) : s.Evolves s.serveReleased := by
  unfold State.serveReleased
  split
  · exact .refl s
  · split
    · exact s.serveOwed_evolves
    · split
      · exact s.chosen_evolves.trans s.chosen.serveOwed_evolves
      · exact s.chosen_evolves

/-! ## Rounds and triggers -/

theorem State.failRound_evolves (s : State) (l : Link) : s.Evolves (s.failRound l) := by
  unfold State.failRound
  split
  · exact .refl s
  · have reported := s.occurrence_evolves l .renewFail none none
    dsimp only
    split
    · exact (reported.trans (State.setKeys_evolves .eraseNext)).trans (State.advance_evolves ⟨by simp, .inl rfl, by simp, rfl⟩)
    · exact reported.trans (State.advance_evolves ⟨by simp, .inl rfl, by simp, rfl⟩)

theorem State.wornRoot_evolves (s : State) (l : Link) : s.Evolves (s.wornRoot l) := by
  unfold State.wornRoot
  split
  · exact s.failRound_evolves l
  · exact s.failRound_evolves l
  all_goals exact .refl s

theorem askFirst_evolves (fuel : Nat) (l : Link) (s : State) : s.Evolves (askFirst fuel l s) := by
  induction fuel generalizing s with
  | zero => exact .refl s
  | succ fuel ih =>
    unfold askFirst
    split
    · exact .refl s
    · split
      · exact s.onFirst_claim_evolves l .ready
      · exact (s.onFirst_claim_evolves l .raising).trans (State.raiseCeiling_evolves _ _)
      · exact (((s.removeFirst_evolves l).trans (State.serveReleased_evolves _)).trans
          (State.wornRoot_evolves _ l)).trans (ih _)

theorem State.settleFirst_evolves (s : State) (l : Link) : s.Evolves (s.settleFirst l) := askFirst_evolves _ l s

theorem State.createNext_evolves (preparing : (s.renewal l).state = .preparing) : s.Evolves (s.createNext l) := by
  unfold State.createNext
  split
  · exact .refl s
  · next e entry =>
    exact (State.setKeys_evolves (.createNext e _ _ _ entry preparing)).trans (.of_eq rfl rfl rfl rfl)

theorem State.appendOffer_evolves (s : State) (l : Link) : s.Evolves (s.appendOffer l) := by
  unfold State.appendOffer
  split
  · exact s.append_evolves l _
  · exact .refl s

theorem State.appendAsk_evolves (s : State) (l : Link) : s.Evolves (s.appendAsk l) := by
  unfold State.appendAsk
  split
  · exact s.append_evolves l _
  · exact .refl s

theorem State.requestOffer_evolves (preparing : (s.renewal l).state = .preparing) : s.Evolves (s.requestOffer l) := by
  unfold State.requestOffer
  split
  · exact (((State.createNext_evolves preparing).trans (State.appendOffer_evolves _ l)).trans
      (State.advance_evolves ⟨by simp, .inr le_rfl, id, rfl⟩)).trans (State.settleFirst_evolves _ l)
  · exact .refl s

theorem State.requestAsk_evolves (s : State) (l : Link) : s.Evolves (s.requestAsk l) := by
  unfold State.requestAsk
  split
  · exact ((s.appendAsk_evolves l).trans (State.advance_evolves ⟨by simp, .inr le_rfl, id, rfl⟩)).trans
      (State.settleFirst_evolves _ l)
  · exact .refl s

theorem State.appendOffer_holding (s : State) (l : Link) : (s.appendOffer l).holding l = s.holding l := by
  unfold State.appendOffer
  split <;> rfl

theorem State.appendAsk_holding (s : State) (l : Link) : (s.appendAsk l).holding l = s.holding l := by
  unfold State.appendAsk
  split <;> rfl

theorem State.retryOffer_evolves (retry : (s.holding l).MayRetry) : s.Evolves (s.retryOffer l) := by
  unfold State.retryOffer
  split
  · exact ((s.appendOffer_evolves l).trans (State.onRenewal_evolves (.retry (by rwa [s.appendOffer_holding])))).trans
      (State.settleFirst_evolves _ l)
  · exact State.onRenewal_evolves (.owe retry)

theorem State.retryAsk_evolves (retry : (s.holding l).MayRetry) : s.Evolves (s.retryAsk l) := by
  unfold State.retryAsk
  split
  · exact ((s.appendAsk_evolves l).trans (State.onRenewal_evolves (.retry (by rwa [s.appendAsk_holding])))).trans
      (State.settleFirst_evolves _ l)
  · exact State.onRenewal_evolves (.owe retry)

theorem State.startRound_evolves (s : State) (l : Link) : s.Evolves (s.startRound l) := by
  unfold State.startRound
  split
  · exact .refl s
  · next e entry =>
    split
    · next role =>
      exact (State.onRenewal_evolves (.prepare e entry role)).trans (State.requestOffer_evolves (by simp))
    · exact (State.advance_evolves ⟨by simp, .inr (Nat.zero_le 1), by simp, rfl⟩).trans (State.requestAsk_evolves _ l)

theorem State.trigger_evolves (s : State) (l : Link) (reason : Reason) : s.Evolves (s.trigger l reason) := by
  unfold State.trigger
  split
  · exact (State.advance_evolves ⟨id, .inl rfl, id, rfl⟩).trans (State.startRound_evolves _ l)
  · exact State.advance_evolves ⟨id, .inl rfl, id, rfl⟩

/-! ## Outbound traffic -/

theorem State.softCross_evolves (s : State) (l : Link) (role : SlotRole) : s.Evolves (s.softCross l role) := by
  unfold State.softCross
  split
  · exact .refl s
  · next k slot =>
    split
    · exact (State.setKeys_evolves (.slot role k _ slot .crosses)).trans (State.trigger_evolves _ l .wear)
    · exact .refl s

theorem State.outboundAccepted_evolves (s : State) (l : Link) : s.Evolves (s.outboundAccepted l) :=
  (State.onEntry_evolves fun _ _ => .beat _).trans (State.advance_evolves ⟨id, .inl rfl, id, rfl⟩)

theorem State.acceptOutbound_evolves {k : KeySlot} {n : Nat} (slot : s.outboundSlot l = some k)
    (fits : k.canProtect n = true) (work : SlotBinding → Nat → Work) : s.Evolves (s.acceptOutbound l k n work) :=
  (((State.setKeys_evolves (.slot _ k _ slot (.protects n fits))).trans (State.append_evolves _ l _)).trans
    (State.outboundAccepted_evolves _ l)).trans (State.softCross_evolves _ l _)

theorem State.refuseForWear_evolves (s : State) (l : Link) (k : KeySlot) : s.Evolves (s.refuseForWear l k) := by
  have reported := s.occurrence_evolves l .spent (some k.epoch) none
  unfold State.refuseForWear
  dsimp only
  split
  · exact reported.trans (State.trigger_evolves _ l .spent)
  · exact reported

/-- The engine accepts a BEAT or PROOF under an outbound slot that has room for it (R65). -/
theorem State.controlAnswer_accepted {k : KeySlot} (slot : s.outboundSlot l = some k)
    (h : s.controlAnswer l = .accepted) : k.canProtect 0 = true := by
  simp only [State.controlAnswer, slot] at h
  split_ifs at h
  assumption

theorem State.requestTraffic_evolves (s : State) (l : Link) (work : SlotBinding → Nat → Work) :
    s.Evolves (s.requestTraffic l work) := by
  unfold State.requestTraffic
  split
  · exact .refl s
  · next k slot =>
    split
    · next accepted => exact State.acceptOutbound_evolves slot (State.controlAnswer_accepted slot accepted) work
    · exact s.refuseForWear_evolves l k
    · exact .refl s
    · exact .refl s

theorem State.requestConfirm_evolves (s : State) (l : Link) : s.Evolves (s.requestConfirm l) := by
  unfold State.requestConfirm
  split
  · exact s.occurrence_evolves l .beatSkip none none
  all_goals exact s.requestTraffic_evolves l .beat

/-! ## The expiries and requests of a tick -/

theorem State.expireBeat_evolves (s : State) (l : Link) : s.Evolves (s.expireBeat l) := by
  have reload : ∀ (t : State) timer, t.Evolves (t.onEntry l fun e => { e with beatTimer := timer }) :=
    fun t timer => State.onEntry_evolves fun _ _ => .beat timer
  unfold State.expireBeat
  split
  · exact .refl s
  · split
    · unfold State.takeBeatExpiry
      dsimp only
      split
      · exact s.requestTraffic_evolves l .beat
      · exact (s.occurrence_evolves l .beatSkip none none).trans (reload _ _)
      · exact (s.requestTraffic_evolves l .beat).trans (reload _ _)
      · exact reload s _
    · exact .refl s

theorem State.takePreparing_evolves (s : State) (l : Link) : s.Evolves (s.takePreparing l) := by
  unfold State.takePreparing
  split
  · next h =>
    have preparing : (s.renewal l).state = .preparing := by simpa using (Bool.and_eq_true_iff.mp h).2
    simp only [State.takeClaim, preparing]
    exact (State.advance_evolves ⟨id, .inl rfl, id, rfl⟩).trans (State.requestOffer_evolves (by simpa using preparing))
  · exact .refl s

theorem State.takeAsking_evolves (s : State) (l : Link) : s.Evolves (s.takeAsking l) := by
  unfold State.takeAsking
  split
  · next h =>
    have asking : (s.renewal l).state = .asking := by simpa using (Bool.and_eq_true_iff.mp h).2
    simp only [State.takeClaim, asking]
    exact (State.advance_evolves ⟨id, .inl rfl, id, rfl⟩).trans (State.requestAsk_evolves _ l)
  · exact .refl s

theorem State.takeRetry_evolves (s : State) (l : Link) : s.Evolves (s.takeRetry l) := by
  unfold State.takeRetry
  split
  · next h =>
    obtain ⟨states, owed⟩ := Bool.and_eq_true_iff.mp h
    have taken : s.Evolves (s.onRenewal l fun c => { c with claimDue := false }) :=
      State.advance_evolves ⟨id, .inl rfl, id, rfl⟩
    have retry : ((s.onRenewal l fun c => { c with claimDue := false }).holding l).MayRetry :=
      .inl (by simpa [State.holding] using owed)
    have states : (s.renewal l).state = .offered ∨ (s.renewal l).state = .asked := by
      simp only [State.claimsIn, Bool.or_eq_true, Bool.and_eq_true, decide_eq_true_eq] at states
      exact states.imp And.right And.right
    rcases states with state | state <;> simp only [State.takeClaim, state]
    · exact taken.trans (State.retryOffer_evolves retry)
    · exact taken.trans (State.retryAsk_evolves retry)
  · exact .refl s

theorem State.takeConfirm_evolves (s : State) (l : Link) : s.Evolves (s.takeConfirm l) := by
  unfold State.takeConfirm
  split
  · exact (State.advance_evolves ⟨id, .inl rfl, id, rfl⟩).trans (State.requestConfirm_evolves _ l)
  · exact .refl s

theorem State.stopStep_evolves (s : State) (l : Link) : s.Evolves (s.stopStep l) :=
  State.advance_evolves ⟨id, .inl rfl, id, rfl⟩

/-- Where tries remain, a stopped step timer leaves a retry due. -/
theorem State.stopStep_mayRetry {e : LinkEntry} (entry : s.entry l = some e) (remain : s.triesRemain l e = true) :
    ((s.stopStep l).holding l).MayRetry := by
  refine .inr ⟨e, entry, ?_⟩
  simpa [State.triesRemain, State.holding, State.stopStep] using remain

theorem State.expireOffer_evolves (s : State) (l : Link) : s.Evolves (s.expireOffer l) := by
  unfold State.expireOffer
  split
  · exact .refl s
  · next e entry =>
    split
    · split
      · next remain =>
        exact (s.stopStep_evolves l).trans (State.retryOffer_evolves (State.stopStep_mayRetry entry remain))
      · exact (s.stopStep_evolves l).trans (State.failRound_evolves _ l)
    · exact .refl s

theorem State.expireAsk_evolves (s : State) (l : Link) : s.Evolves (s.expireAsk l) := by
  unfold State.expireAsk
  split
  · exact .refl s
  · next e entry =>
    split
    · split
      · next remain =>
        exact (s.stopStep_evolves l).trans (State.retryAsk_evolves (State.stopStep_mayRetry entry remain))
      · exact (s.stopStep_evolves l).trans (State.failRound_evolves _ l)
    · exact .refl s

theorem State.expireRest_evolves (s : State) (l : Link) : s.Evolves (s.expireRest l) := by
  unfold State.expireRest
  split
  · split
    · exact s.startRound_evolves l
    · exact State.advance_evolves ⟨by simp, .inl rfl, id, rfl⟩
  · exact .refl s

theorem State.expireRenewal_evolves (s : State) (l : Link) : s.Evolves (s.expireRenewal l) := by
  unfold State.expireRenewal
  split
  · exact .refl s
  · next e entry =>
    split
    · next expiring =>
      have marked : s.Evolves (s.onRenewal l fun c => { c with dueMark := true }) :=
        State.advance_evolves ⟨id, .inl rfl, id, rfl⟩
      have reported := marked.trans (State.occurrence_evolves _ l
        (if (s.renewal l).dueMark then .overdue else .due) ((s.keySet l).current.map KeySlot.epoch) none)
      refine (reported.trans (State.onRenewal_evolves (.reload _ ?_))).trans (State.trigger_evolves _ l .due)
      simpa [State.holding, (State.occurrence_frame _ l _ _ none).renewal] using expiring
    · exact .refl s

theorem State.expireSilence_evolves (s : State) (l : Link) : s.Evolves (s.expireSilence l) := by
  unfold State.expireSilence
  split
  · exact .refl s
  · next e entry =>
    split
    · next expiring =>
      have reported := (State.setEntry_evolves entry (.silent expiring)).trans
        (State.occurrence_evolves _ l .silent none none)
      dsimp only
      split
      · exact reported.trans (State.trigger_evolves _ l .loss)
      · exact reported
    · exact .refl s

theorem State.takeControlClaim_evolves (s : State) (c : ControlClaim) : s.Evolves (s.takeControlClaim c) := by
  cases c with
  | beat l => exact s.expireBeat_evolves l
  | preparing l => exact s.takePreparing_evolves l
  | asking l => exact s.takeAsking_evolves l
  | retry l => exact s.takeRetry_evolves l
  | confirm l => exact s.takeConfirm_evolves l
  | offerTimer l => exact s.expireOffer_evolves l
  | askTimer l => exact s.expireAsk_evolves l
  | restTimer l => exact s.expireRest_evolves l
  | renewalTimer l => exact s.expireRenewal_evolves l
  | silence l => exact s.expireSilence_evolves l

/-! ## Contested slots -/

theorem State.serveOne_evolves (s : State) (claims : List ControlClaim) (n : Nat) : s.Evolves (s.serveOne claims n) := by
  unfold State.serveOne
  split
  · exact s.takeControlClaim_evolves _
  · unfold State.serveLowest
    split
    · exact .refl s
    · exact .of_eq rfl rfl rfl rfl

theorem serveContested_evolves (fuel : Nat) (s : State) : s.Evolves (serveContested fuel s) := by
  induction fuel generalizing s with
  | zero => exact s.serveOwed_evolves
  | succ fuel ih =>
    unfold serveContested
    split
    · exact .refl s
    · exact s.serveOwed_evolves
    · split
      · exact (s.chosen_evolves.trans (State.serveOne_evolves _ _ _)).trans (ih _)
      · exact .refl s

theorem State.serveFreed_evolves (s : State) : s.Evolves s.serveFreed := serveContested_evolves _ s

theorem contestSlots_evolves {request : State → State} (h : ∀ u : State, u.Evolves (request u)) (l : Link) (fuel : Nat)
    (s : State) : s.Evolves (contestSlots l request fuel s) := by
  induction fuel generalizing s with
  | zero => exact h s
  | succ fuel ih =>
    unfold contestSlots
    dsimp only
    split
    · split
      · exact s.chosen_evolves.trans (h _)
      · exact (s.chosen_evolves.trans (State.serveOne_evolves _ _ _)).trans (ih _)
    · exact h s

theorem State.contest_evolves {request : State → State} (h : ∀ u : State, u.Evolves (request u)) (s : State) (l : Link) :
    s.Evolves (s.contest l request) := by
  unfold State.contest
  split
  · exact (contestSlots_evolves h l _ s).trans (State.serveReleased_evolves _)
  · exact h s

/-! ## Verdicts -/

theorem State.goodVerdict_evolves (s : State) (l : Link) : s.Evolves (s.goodVerdict l) :=
  State.onEntry_evolves fun _ _ => .good

theorem State.badVerdict_evolves (s : State) (l : Link) : s.Evolves (s.badVerdict l) := by
  unfold State.badVerdict
  split
  · exact .refl s
  · next e entry =>
    split
    · next loses =>
      have lost := (State.setEntry_evolves entry (.loseLock loses)).trans
        (State.occurrence_evolves _ l .loss none none)
      unfold State.loseLock
      dsimp only
      split
      · exact lost.trans (State.trigger_evolves _ l .loss)
      · exact lost
    · exact State.setEntry_evolves entry .bad

/-! ## Promotion, installation and attachment -/

/-- What a link holds when its key set has been promoted (R24, R25, R103, R105). -/
def Holding.promoted (h : Holding) (e : LinkEntry) (hadOutbound owed : Bool) : Holding :=
  { entry := some (e.promoted hadOutbound)
    keys := h.keys.promote e.policy.graceTicks
    renewal := { h.renewal.promoted e.policy.renewTicks with confirmOwed := owed } }

/-- What a link holds when the NEXT of an OFFER has been installed and a lost CURRENT reported (R22, R29). -/
def Holding.installed (h : Holding) (e : LinkEntry) (x : OfferText) (tick : Nat) : Holding :=
  let how := h.keys.installation x
  let keys := h.keys.install how x.epoch (newSlot e.policy x.epoch x.key x.salt tick)
  if h.keys.losesCurrent how then
    { entry := some { e with state := .keyless, goodCount := 0, badCount := 0, silenceTimer := .stopped }
      keys := keys
      renewal := { h.renewal with renewalTimer := .stopped } }
  else { h with keys := keys }

/-- What a link holds after a good verdict (R123). -/
def Holding.good (h : Holding) : Holding := { h with entry := h.entry.map LinkEntry.good }

/-- What one step can do to what a link holds, the link's HELD OFFERs at its start being those of `offer`: moves; an ATTACH
of a CLOSED link and moves; an OFFER installed and moves; or moves, a promotion, moves, the good verdict on the record that
brought the promotion about, and moves. -/
inductive Course (offer : OfferText → Prop) (h h' : Holding) : Prop
  | moves : Moves h h' → Course offer h h'
  | attach (e c items) : h.entry = none → Moves { h with entry := some (attachedEntry e c items) } h' →
      Course offer h h'
  | install (e x tick) : offer x → h.entry = some e → h.keys.installation x ≠ .stale →
      Moves (h.installed e x tick) h' → Course offer h h'
  | promotion (a b e hadOutbound owed) : Moves h a → a.entry = some e → a.keys.next.isSome →
      Moves (a.promoted e hadOutbound owed) b → Moves b.good h' → Course offer h h'

/-- One step from `s` to `t`: each link's holding has run its course, and a record has become HELD only with a content that
fits its link's role (R63). -/
structure State.Runs (s t : State) : Prop where
  course : ∀ l, Course (fun x => s.Holds l (.offer x)) (s.holding l) (t.holding l)
  held : ∀ l content, t.Holds l content →
    s.Holds l content ∨ ∃ e p, s.entry l = some e ∧ rootContentOf e.role p = some content

theorem State.Evolves.runs (h : s.Evolves t) : s.Runs t where
  course l := .moves (h.moves l)
  held l content x := .inl (h.held l content x)

theorem State.Runs.refl (s : State) : s.Runs s := (State.Evolves.refl s).runs

theorem State.Runs.evolves (h : s.Runs t) (k : t.Evolves u) : s.Runs u where
  course l := by
    have more := k.moves l
    cases h.course l with
    | moves m => exact .moves (m.trans more)
    | attach e c items closed m => exact .attach e c items closed (m.trans more)
    | install e x tick held entry fresh m => exact .install e x tick held entry fresh (m.trans more)
    | promotion a b e had owed m entry next n o => exact .promotion a b e had owed m entry next n (o.trans more)
  held l content x := h.held l content (k.held l content x)

/-- A step goes on from a state that holds what `s` does. -/
theorem State.Runs.since (h : u.Runs t) (keys : u.keys = s.keys) (links : u.links = s.links)
    (renewals : u.renewals = s.renewals) (pool : u.pool = s.pool) : s.Runs t where
  course l := by
    have course := h.course l
    simpa [State.holding, State.entry, State.keySet, State.renewal, State.Holds, keys, links, renewals, pool] using course
  held l content x := by
    have held := h.held l content x
    simpa [State.entry, State.Holds, links, pool] using held

/-- One link's course has begun at what it holds in `u`, where nothing else has moved yet. -/
theorem State.Runs.of_start (start : ∀ h', Moves (u.holding l) h' → Course (fun x => s.Holds l (.offer x)) (s.holding l) h')
    (others : ∀ m, m ≠ l → u.holding m = s.holding m) (pool : u.pool = s.pool) (rest : u.Evolves t) : s.Runs t where
  course m := by
    by_cases h : m = l
    · subst h
      exact start _ (rest.moves m)
    · exact .moves (others m h ▸ rest.moves m)
  held m content x := .inl (by simpa [State.Holds, pool] using rest.held m content x)

/-- A soft crossing keeps a NEXT: one that is the outbound slot stands at a shop in PROVED, where no round begins
(R23, R92). -/
theorem State.softCross_next (next : (s.keySet l).next.isSome) : ((s.softCross l .next).keySet l).next.isSome := by
  unfold State.softCross
  split
  · exact next
  · split
    · next crosses =>
      have outbound : SlotRole.next = s.outboundRole l := by
        simp only [Bool.and_eq_true, Bool.or_eq_true, decide_eq_true_eq, reduceCtorEq, or_false] at crosses
        exact crosses.1
      have proved : (s.renewal l).state = .proved := by
        unfold State.outboundRole at outbound
        split at outbound
        · contradiction
        · split at outbound
          · contradiction
          · split at outbound
            · assumption
            · contradiction
      simp [State.trigger, proved, RenewalState.isOpen, State.onRenewal, KeySet.withSlot]
    · exact next

/-- A promotion begins with the link's slots, entry and context moved together. -/
theorem State.promote_start (s : State) (l : Link) (e : LinkEntry) : ∃ (v : State) (had owed : Bool),
    v.holding l = (s.holding l).promoted e had owed ∧ (∀ m, m ≠ l → v.holding m = s.holding m) ∧ v.pool = s.pool ∧
    v.Evolves (s.promote l e) := by
  have start : ∀ (f : RenewalContext → RenewalContext), let v := ((s.setKeys l ((s.keySet l).promote
      e.policy.graceTicks)).setEntry l (some (e.promoted (s.outboundSlot l).isSome))).onRenewal l f
      v.holding l = { (s.holding l).promoted e (s.outboundSlot l).isSome false with renewal := f (s.renewal l) } ∧
      ∀ m, m ≠ l → v.holding m = s.holding m := by
    refine fun f => ⟨?_, fun m hm => ?_⟩
    · simp [State.holding, Holding.promoted, State.onRenewal]
    · simp [State.holding, hm, State.onRenewal]
  unfold State.promote
  dsimp only
  split
  · obtain ⟨at_, others⟩ := start fun c => c.promoted e.policy.renewTicks
    exact ⟨_, _, (s.renewal l).confirmOwed, at_, others, rfl, .refl _⟩
  · obtain ⟨at_, others⟩ := start fun c => { c.promoted e.policy.renewTicks with confirmOwed := true }
    exact ⟨_, _, true, at_, others, rfl, (State.withdraw_evolves _ l _).trans
      (State.contest_evolves (fun u => u.requestConfirm_evolves l) _ l)⟩

/-- An accepted record is a use of its slot, and under NEXT a promotion (R47, R62). -/
theorem State.acceptInbound_runs {e : LinkEntry} {role : SlotRole} {k : KeySlot} {record : List Byte}
    (entry : s.entry l = some e) (slot : (s.keySet l).slot role = some k)
    (accepted : k.window.judge (recordSequence record) = .accepted) :
    s.Runs (s.acceptInbound l e role k record) := by
  have charged : s.Evolves (s.setKeys l ((s.keySet l).withSlot role
      (some { k.chargeIn (recordLength record) with window := k.window.accept (recordSequence record) }))) :=
    State.setKeys_evolves (.slot role k _ slot (.accepts _ _ accepted))
  have crossed := charged.trans (State.softCross_evolves _ l role)
  unfold State.acceptInbound
  dsimp only
  split
  · next under =>
    subst under
    have next := State.softCross_next (s := s.setKeys l ((s.keySet l).withSlot .next
      (some { k.chargeIn (recordLength record) with window := k.window.accept (recordSequence record) })))
      (l := l) (by simp [KeySet.withSlot])
    have entry' := ((State.softCross_frame (s.setKeys l ((s.keySet l).withSlot .next
      (some { k.chargeIn (recordLength record) with window := k.window.accept (recordSequence record) }))) l .next).entry
      l).trans entry
    revert crossed next entry'
    generalize (s.setKeys l _).softCross l .next = u
    intro crossed next entry'
    obtain ⟨v, had, owed, start, others, pool, rest⟩ := u.promote_start l e
    have verdict : ((u.promote l e).goodVerdict l).holding l = ((u.promote l e).holding l).good := by
      simp [State.goodVerdict, State.onEntry, State.holding, Holding.good]
    refine ⟨fun m => ?_, fun m content x => .inl ?_⟩
    · by_cases h : m = l
      · subst h
        refine .promotion _ _ e had owed (crossed.moves m) entry' next (start ▸ rest.moves m) ?_
        rw [verdict]
      · exact .moves ((crossed.moves m).trans (others m h ▸
          (rest.trans (State.goodVerdict_evolves _ l)).moves m))
    · have x := (rest.trans (State.goodVerdict_evolves _ l)).held m content x
      exact crossed.held m content (by rwa [State.Holds, pool] at x)
  · exact (crossed.trans (State.goodVerdict_evolves _ l)).runs

/-- An installation begins with the new NEXT and the loss of CURRENT it brings (R22, R29). -/
theorem State.installOffer_start {e : LinkEntry} (entry : s.entry l = some e) (x : OfferText) : ∃ v : State,
    v.holding l = (s.holding l).installed e x s.tickCount ∧ (∀ m, m ≠ l → v.holding m = s.holding m) ∧
    v.pool = s.pool ∧ v.Evolves (s.installOffer l e x) := by
  have start : ∀ how, how = (s.keySet l).installation x →
      ∀ slotted : State, slotted = s.setKeys l ((s.keySet l).install how x.epoch
        (newSlot e.policy x.epoch x.key x.salt s.tickCount)) →
      ∀ lost, lost = (if (s.keySet l).losesCurrent how then slotted.loseCurrent l else slotted) →
      lost.holding l = (s.holding l).installed e x s.tickCount ∧ (∀ m, m ≠ l → lost.holding m = s.holding m) ∧
      lost.pool = s.pool := by
    rintro how rfl slotted rfl lost rfl
    split
    · next loses =>
      refine ⟨?_, fun m hm => ?_, rfl⟩
      · simp [State.holding, Holding.installed, loses, State.loseCurrent, State.onRenewal, State.onEntry, entry]
      · simp [State.holding, hm, State.loseCurrent, State.onRenewal, State.onEntry]
    · next keeps =>
      refine ⟨?_, fun m hm => ?_, rfl⟩
      · simp [State.holding, Holding.installed, keeps]
      · simp [State.holding, hm]
  obtain ⟨at_, others, pool⟩ := start _ rfl _ rfl _ rfl
  refine ⟨_, at_, others, pool, ?_⟩
  unfold State.installOffer
  dsimp only
  generalize (if (s.keySet l).losesCurrent _ = true then _ else _ : State) = lost
  split
  · exact .refl lost
  · split
    · exact State.onEntry_evolves fun _ _ => .beat _
    · exact .refl lost

theorem State.validOffer_runs {x : OfferText} (held : s.Holds l (.offer x)) : s.Runs (s.validOffer l x) := by
  unfold State.validOffer
  split
  · exact .refl s
  · next e entry =>
    split
    · exact .refl s
    · next fresh =>
      obtain ⟨v, start, others, pool, rest⟩ := State.installOffer_start entry x
      refine .of_start (fun h' m => .install e x s.tickCount held entry fresh (start ▸ m)) others pool ?_
      exact ((rest.trans (State.advance_evolves ⟨by simp, .inl rfl, by simp, rfl⟩)).trans
        (State.withdraw_evolves _ l _)).trans (State.contest_evolves (fun u => u.requestTraffic_evolves l .proof) _ l)

theorem State.attachLink_runs (closed : s.entry l = none) (e : EntryNo) (c : RootContents) (items : List PolicyItem) :
    s.Runs (s.attachLink l e c items) := by
  refine .of_start (l := l) (u := s.setEntry l (some (attachedEntry e c items))) (fun h' m => ?_) (fun m hm => ?_) rfl
    (State.Evolves.trans (t := ((s.setRoot e { s.root e with bound := some l }).setEntry l
      (some (attachedEntry e c items))).setFaults l FaultRecord.initial) (.of_eq rfl rfl rfl rfl)
      (State.trigger_evolves _ l .start))
  · refine .attach e c items closed ?_
    simpa [State.holding] using m
  · simp [State.holding, hm]

/-! ## HELD records -/

theorem State.releaseActs_runs {content : RootContent} (held : s.Holds l content) : s.Runs (s.releaseActs l content) := by
  cases content with
  | offer x => exact State.validOffer_runs held
  | ask reason =>
    exact (State.Evolves.trans (State.advance_evolves ⟨id, .inl rfl, id, rfl⟩) (State.trigger_evolves _ l reason)).runs

theorem State.release_runs {content : RootContent} (held : s.Holds l content) (tag : Byte) (record : List Byte) :
    s.Runs (s.release l tag record content) :=
  (State.releaseActs_runs held).evolves
    (((State.place_evolves _ _).trans (State.removeFirst_evolves _ l)).trans (State.settleFirst_evolves _ l))

theorem State.holds_of_firstJob {j : Job} {content : RootContent} (first : s.firstJob l = some j)
    (state : j.state = .held content) : s.Holds l content :=
  ⟨j, List.mem_of_find?_eq_some first, by simpa using List.find?_some first, state⟩

theorem State.reportWrite_runs (s : State) (e : EntryNo) : s.Runs (s.reportWrite e) := by
  unfold State.reportWrite
  split
  · exact .refl s
  · next l bound =>
    split
    · exact .refl s
    · next j first =>
      split
      · next content _ _ _ state _ =>
        split
        · exact State.release_runs (State.holds_of_firstJob first state) _ _
        · exact .refl s
      · split
        · split
          · exact (s.onFirst_claim_evolves l .ready).runs
          · exact .refl s
        · exact .refl s
      · exact .refl s

theorem State.finishWrite_runs (s : State) (w : NvWrite) : s.Runs (s.finishWrite w) := by
  unfold State.finishWrite
  dsimp only
  refine State.Runs.evolves ?_ (State.serveFreed_evolves _)
  refine State.Runs.evolves ?_ ((State.placeRootReplies_evolves _ w.entry).trans (State.startWrite_evolves _))
  exact (State.reportWrite_runs _ w.entry).since rfl rfl rfl rfl

/-- A root record that becomes HELD fits the role of its link (R13, R14, R15). -/
theorem State.judgeRoot_fits {e : LinkEntry} {root : RootBinding} {record : List Byte} {content : RootContent}
    (judged : s.judgeRoot e root record = .hold content) : ∃ p, rootContentOf e.role p = some content := by
  unfold State.judgeRoot at judged
  split at judged
  · contradiction
  · next p _ =>
    split at judged
    · contradiction
    · next fit =>
      split at judged
      · contradiction
      · exact ⟨p, by rw [fit, RootJudgement.hold.inj judged]⟩

theorem State.finishLane_evolves (s : State) (lane : Lane) (l : Link) : s.Evolves (s.finishLane lane l) :=
  ((s.removeLane_evolves lane).trans (State.settleFirst_evolves _ l)).trans (State.serveFreed_evolves _)

theorem State.completeRoot_runs (s : State) (lane : Lane) : s.Runs (s.completeRoot lane) := by
  unfold State.completeRoot
  split
  · exact .refl s
  · next j inLane =>
    split
    · next e tag root record entry work =>
      split
      · next k _ =>
        exact (((s.occurrence_evolves j.link k _ _).trans (State.place_evolves _ _)).trans
          (State.finishLane_evolves _ lane j.link)).runs
      · next content judged =>
        refine State.Runs.evolves ?_ ((State.setRoot_evolves _ _ _).trans (State.requestWrite_evolves _ _))
        obtain ⟨before, after, pool, state, others⟩ := State.inLane_of_laneJob inLane
        have changed : changeFirst (fun x => x.isIn lane) (fun x => { x with state := .held content }) s.pool =
            before ++ { j with state := .held content } :: after := by
          rw [pool]
          exact changeFirst_of_split (by simp [Job.isIn, state]) fun x hx => by simp [Job.isIn, others x hx]
        refine ⟨fun m => .moves .refl, ?_⟩
        rintro m new ⟨i, hi, link, held⟩
        rw [changed, List.mem_append, List.mem_cons] at hi
        rcases hi with h | rfl | h
        · exact .inl ⟨i, by simp [pool, h], link, held⟩
        · obtain ⟨p, fit⟩ := State.judgeRoot_fits judged
          subst link
          exact .inr ⟨e, p, entry, by rw [fit, JobState.held.inj held]⟩
        · exact .inl ⟨i, by simp [pool, h], link, held⟩
    · exact .refl s

/-! ## The record engine's requests and completions -/

theorem takeEncipher_evolves (r : Request) (s : State) : s.Evolves (takeEncipher r s) := by
  unfold takeEncipher
  split
  · exact s.place_evolves _
  · split
    · exact s.place_evolves _
    · split
      · exact s.place_evolves _
      · next k slot =>
        split
        · exact s.place_evolves _
        · split
          · next fits => exact (State.acceptOutbound_evolves slot fits _).trans (State.serveFreed_evolves _)
          · exact ((s.refuseForWear_evolves _ k).trans (State.place_evolves _ _)).trans (State.serveFreed_evolves _)

theorem State.dropAtHeader_evolves (s : State) (r : Request) (l : Link) (e : LinkEntry) (record : List Byte)
    (k : FaultKind) : s.Evolves (s.dropAtHeader r l e record k) := by
  unfold State.dropAtHeader
  dsimp only
  refine State.Evolves.trans (State.Evolves.trans ?_ (State.place_evolves _ _)) (State.serveFreed_evolves _)
  split
  · exact s.occurrence_evolves l k _ _
  · split
    · split
      · exact (s.chosen_evolves.trans (State.occurrence_evolves _ l k _ _)).trans (State.badVerdict_evolves _ l)
      · exact (s.chosen_evolves.trans (State.badVerdict_evolves _ l)).trans (State.occurrence_evolves _ l k _ _)
    · exact (s.occurrence_evolves l k _ _).trans (State.badVerdict_evolves _ l)

theorem State.acceptDecipher_evolves (s : State) (r : Request) (l : Link) (work : Work) :
    s.Evolves (s.acceptDecipher r l work) := by
  unfold State.acceptDecipher
  split
  · exact s.append_evolves l work
  · exact s.place_evolves _

theorem State.checkHeader_evolves (s : State) (r : Request) (l : Link) (e : LinkEntry) (record : List Byte) :
    s.Evolves (s.checkHeader r l e record) := by
  unfold State.checkHeader
  split
  · exact s.dropAtHeader_evolves r l e record .form
  · split
    · split
      · exact s.dropAtHeader_evolves r l e record .form
      · exact s.acceptDecipher_evolves r l _
    · split
      · exact s.dropAtHeader_evolves r l e record .epoch
      · split
        · exact s.dropAtHeader_evolves r l e record .epoch
        · exact s.acceptDecipher_evolves r l _

theorem takeDecipher_evolves (r : Request) (s : State) : s.Evolves (takeDecipher r s) := by
  unfold takeDecipher
  split
  · exact s.place_evolves _
  · split
    · exact s.place_evolves _
    · exact s.checkHeader_evolves r _ _ _

theorem State.takeCounter_evolves (s : State) (l : Link) : s.Evolves (s.takeCounter l) := by
  unfold State.takeCounter
  split
  · exact .refl s
  · exact (s.onFirst_claim_evolves l _).trans (State.setRoot_evolves _ _ _)

theorem State.grant_evolves (s : State) (lane : Lane) : s.Evolves (s.grant lane) := by
  unfold State.grant
  split
  · exact ((s.takeCounter_evolves _).trans (State.onFirst_lane_evolves _ _ lane)).trans (.of_eq rfl rfl rfl rfl)
  · exact .refl s
  · exact .refl s

theorem State.completeEncipher_evolves (s : State) (lane : Lane) : s.Evolves (s.completeEncipher lane) := by
  unfold State.completeEncipher
  split
  · exact .refl s
  · split
    · exact ((s.sealing_evolves _).trans (State.place_evolves _ _)).trans (State.finishLane_evolves _ lane _)
    · exact .refl s

theorem State.dropInbound_evolves (s : State) (l : Link) (k : FaultKind) (record : List Byte) :
    s.Evolves (s.dropInbound l k record) :=
  (s.badVerdict_evolves l).trans (State.occurrence_evolves _ l k _ _)

theorem State.dropDuplicate_evolves (s : State) (l : Link) (e : LinkEntry) (record : List Byte) :
    s.Evolves (s.dropDuplicate l e record) := by
  unfold State.dropDuplicate
  split
  · exact s.dropInbound_evolves l .replay record
  · exact (s.toleratedDuplicate_frame l).evolves

theorem State.judgeTraffic_runs {e : LinkEntry} (entry : s.entry l = some e) (slot : SlotBinding) (record : List Byte) :
    s.Runs (s.judgeTraffic l e slot record).1 := by
  unfold State.judgeTraffic
  split
  · exact (s.dropInbound_evolves l .tag record).runs
  · split
    · exact (s.dropInbound_evolves l .epoch record).runs
    · split
      · exact (s.dropInbound_evolves l .epoch record).runs
      · next k here =>
        split
        · next accepted => exact State.acceptInbound_runs entry here accepted
        · exact (s.dropDuplicate_evolves l e record).runs
        · exact (s.dropInbound_evolves l .late record).runs

theorem State.completeTraffic_runs (s : State) (lane : Lane) : s.Runs (s.completeTraffic lane) := by
  unfold State.completeTraffic
  split
  · exact .refl s
  · split
    · next e _ slot record entry _ =>
      exact (State.judgeTraffic_runs entry slot record).evolves
        ((State.place_evolves _ _).trans (State.finishLane_evolves _ lane _))
    · exact .refl s

theorem RenewalContext.emitted_advances (c : RenewalContext) (work : Work) (ticks : Nat) :
    c.Advances (c.emitted work ticks) := by
  unfold RenewalContext.emitted
  split <;> exact ⟨id, .inl rfl, id, rfl⟩

theorem State.completeControl_evolves (s : State) (lane : Lane) : s.Evolves (s.completeControl lane) := by
  unfold State.completeControl
  split
  · exact .refl s
  · split
    · exact .refl s
    · split
      · exact .refl s
      · exact (((s.sealing_evolves _).trans (State.place_evolves _ _)).trans
          (State.advance_evolves (RenewalContext.emitted_advances _ _ _))).trans (State.finishLane_evolves _ lane _)

/-! ## Restarts and the time base -/

theorem State.cutWrite_evolves (s : State) : s.Evolves s.cutWrite := by
  unfold State.cutWrite
  split
  · exact .refl s
  · split <;> exact .of_eq rfl rfl rfl rfl

theorem State.wiped_evolves (s : State) (cause : RestartCause) : s.Evolves (s.wiped cause) where
  moves l := by
    have closed : (s.wiped cause).holding l = .closed := by
      simp [State.holding, State.wiped, State.reset, State.entry, State.keySet, State.renewal, Holding.closed]
    rw [closed]
    exact .single .close
  held := by
    rintro l content ⟨j, hj, -⟩
    exact absurd hj List.not_mem_nil

theorem State.restart_evolves (s : State) (cause : RestartCause) : s.Evolves (s.restart cause) :=
  s.cutWrite_evolves.trans (State.wiped_evolves _ cause)

theorem State.losePower_evolves (s : State) : s.Evolves s.losePower :=
  (s.cutWrite_evolves.trans (State.wiped_evolves _ s.cause)).trans (.of_eq rfl rfl rfl rfl)

theorem State.tick_evolves (s : State) : s.Evolves s.tick where
  moves l := by
    have ticked : s.tick.holding l = { entry := (s.entry l).map LinkEntry.tick, keys := (s.keySet l).tick
                                       renewal := (s.renewal l).tick } := by
      simp [State.holding, State.tick, State.entry, State.keySet, State.renewal]
    rw [ticked]
    exact .single .tick
  held _ _ h := h

theorem State.expireGrace_evolves (s : State) (l : Link) : s.Evolves (s.expireGrace l) := by
  unfold State.expireGrace
  split
  · exact State.setKeys_evolves .graceExpires
  · exact .refl s

/-! ## The port and the fault monitor -/

theorem State.endTransaction_evolves (s : State) (bytes : List Byte) : s.Evolves (s.endTransaction bytes) := by
  unfold State.endTransaction
  split
  · exact .refl s
  · split
    · split
      · exact .refl s
      · unfold State.judgeFrame
        split
        · exact .of_eq rfl rfl rfl rfl
        · split
          · exact s.restart_evolves .commanded
          · split <;> exact .of_eq rfl rfl rfl rfl
    · exact .refl s
    · exact .refl s

theorem State.beginTransaction_evolves (s : State) (lead : Byte) : s.Evolves (s.beginTransaction lead) := by
  unfold State.beginTransaction
  split <;> exact .of_eq rfl rfl rfl rfl

theorem State.endRead_evolves (s : State) (shifted : Nat) : s.Evolves (s.endRead shifted) := by
  have removed : ∀ u : State, u.Evolves u.removeHead := by
    intro u
    unfold State.removeHead
    split
    · exact .refl u
    · split
      · exact (State.serveFreed_evolves _).since rfl rfl rfl rfl
      · exact .of_eq rfl rfl rfl rfl
  unfold State.endRead
  split
  · exact .refl s
  · split
    · exact State.Evolves.trans (t := { s with reading := none }) (.of_eq rfl rfl rfl rfl) (removed _)
    · exact .of_eq rfl rfl rfl rfl

theorem State.takeUnknown_evolves (s : State) : s.Evolves s.takeUnknown := by
  unfold State.takeUnknown
  split
  · exact .refl s
  · split <;> exact .of_eq rfl rfl rfl rfl

theorem takeHello_evolves (r : Request) (s : State) : s.Evolves (takeHello r s) := by
  unfold takeHello
  split <;> exact .of_eq rfl rfl rfl rfl

theorem takeStatus_evolves (r : Request) (s : State) : s.Evolves (takeStatus r s) := by
  unfold takeStatus
  split <;> exact s.place_evolves _

theorem takeFaultClear_evolves (r : Request) (s : State) : s.Evolves (takeFaultClear r s) := by
  have cleared : ∀ l mask, s.Evolves (s.clearFaults l mask) := fun l mask =>
    ((s.onFaults_frame l _).trans (State.judgePending_frame _ l _)).evolves
  unfold takeFaultClear
  split
  · exact s.place_evolves _
  · split
    · exact s.place_evolves _
    · unfold State.faultClear
      split
      · exact s.place_evolves _
      · exact (cleared _ _).trans (State.place_evolves _ _)

theorem takeFaultEnable_evolves (r : Request) (s : State) : s.Evolves (takeFaultEnable r s) := by
  unfold takeFaultEnable
  split
  · exact s.place_evolves _
  · split
    · exact s.place_evolves _
    · exact ((s.onFaults_frame _ _).trans (State.judgePending_frame _ _ _)).evolves.trans (State.place_evolves _ _)

theorem takeCounterSet_evolves (r : Request) (s : State) : s.Evolves (takeCounterSet r s) := by
  unfold takeCounterSet
  split
  · exact s.place_evolves _
  · split
    · exact s.place_evolves _
    · exact (s.onFaults_frame _ _).evolves.trans (State.place_evolves _ _)

theorem State.setMode_evolves (s : State) (m : NoticeMode) : s.Evolves (s.setMode m) := by
  have judged : ∀ ls u, FaultFrame u (judgeLinks s ls u) := by
    intro ls
    induction ls with
    | nil => exact FaultFrame.refl
    | cons l rest ih => exact fun u => (u.judgePending_frame l _).trans (ih _)
  exact (judged _ _).evolves.since rfl rfl rfl rfl

theorem takeNoticeMode_evolves (r : Request) (s : State) : s.Evolves (takeNoticeMode r s) := by
  unfold takeNoticeMode
  split
  · exact s.place_evolves _
  · exact (s.setMode_evolves _).trans (State.place_evolves _ _)
  · split
    · exact s.place_evolves _
    · exact (s.setMode_evolves _).trans (State.place_evolves _ _)

theorem takeLogRead_evolves (r : Request) (s : State) : s.Evolves (takeLogRead r s) := by
  unfold takeLogRead
  split <;> exact .of_eq rfl rfl rfl rfl

/-! ## The root store's and the link supervisor's requests -/

theorem takeRootLoad_evolves (r : Request) (s : State) : s.Evolves (takeRootLoad r s) := by
  unfold takeRootLoad
  split
  · exact s.place_evolves _
  · split
    · exact s.place_evolves _
    · split
      · exact s.place_evolves _
      · exact ((s.setRoot_evolves _ _).trans (State.requestWrite_evolves _ _)).trans (.of_eq rfl rfl rfl rfl)

theorem takeRootErase_evolves (r : Request) (s : State) : s.Evolves (takeRootErase r s) := by
  unfold takeRootErase
  split
  · exact s.place_evolves _
  · split
    · exact s.place_evolves _
    · split
      · exact s.place_evolves _
      · exact ((s.setRoot_evolves _ _).trans (State.requestWrite_evolves _ _)).trans (.of_eq rfl rfl rfl rfl)

theorem takeRootRead_evolves (r : Request) (s : State) : s.Evolves (takeRootRead r s) := by
  unfold takeRootRead
  split <;> exact s.place_evolves _

theorem takeAttach_runs (r : Request) (s : State) : s.Runs (takeAttach r s) := by
  unfold takeAttach
  split
  · exact (s.place_evolves _).runs
  · split
    · exact (s.place_evolves _).runs
    · split
      · exact (s.place_evolves _).runs
      · next closed =>
        split
        · exact (s.place_evolves _).runs
        · split
          · exact (s.place_evolves _).runs
          · exact (State.attachLink_runs (by simpa using closed) _ _ _).evolves
              ((State.place_evolves _ _).trans (State.serveFreed_evolves _))

theorem State.detachLink_evolves (s : State) (l : Link) (e : LinkEntry) : s.Evolves (s.detachLink l e) := by
  have aborted : s.Evolves (s.abortJobs l) :=
    State.Evolves.trans (.of_pool (s.pool.filter fun j => !decide (j.link = l))
      fun _ hj => .inl (List.mem_of_mem_filter hj)) (.of_eq rfl rfl rfl rfl)
  unfold State.detachLink
  dsimp only
  refine State.Evolves.trans ?_ (State.serveFreed_evolves _)
  refine aborted.trans (.of_move (l := l) ?_ (fun m hm => ?_) rfl)
  · simpa [State.holding, Holding.closed, State.keySet, State.renewal, State.setKeys, State.setRenewal, State.setFaults,
      State.setRoot, State.entry, State.setEntry] using Move.close (h := (s.abortJobs l).holding l)
  · simp [State.holding, hm, State.keySet, State.renewal, State.setKeys, State.setRenewal, State.setFaults,
      State.setRoot, State.entry, State.setEntry]

theorem onAttached_evolves {f : Request → Link → LinkEntry → State → State} (r : Request) (s : State)
    (h : ∀ l e, s.Evolves (f r l e s)) : s.Evolves (onAttached f r s) := by
  unfold onAttached
  split
  · exact s.place_evolves _
  · split
    · exact s.place_evolves _
    · exact h _ _

theorem takePolicy_evolves (r : Request) (s : State) : s.Evolves (takePolicy r s) := by
  unfold takePolicy
  split
  · exact s.place_evolves _
  · split
    · exact s.place_evolves _
    · next l e attached =>
      have entry : s.entry l = some e := by
        unfold State.attachedLink at attached
        split at attached
        · contradiction
        · obtain ⟨e', entry, same⟩ := Option.map_eq_some_iff.mp attached
          cases same
          exact entry
      exact (State.setEntry_evolves entry (.policy _ _)).trans (State.place_evolves _ _)

theorem takeLinkRead_evolves (r : Request) (s : State) : s.Evolves (takeLinkRead r s) := by
  unfold takeLinkRead
  split
  · exact s.place_evolves _
  · split
    · exact s.place_evolves _
    · split <;> exact s.place_evolves _

theorem takeRenew_evolves (r : Request) (s : State) : s.Evolves (takeRenew r s) := by
  refine onAttached_evolves r s fun l e => ?_
  split
  · exact ((s.trigger_evolves l .host).trans (State.place_evolves _ _)).trans (State.serveFreed_evolves _)
  · exact s.place_evolves _

/-! ## One step -/

theorem takeRequest_runs {kind : Byte} {f : Request → State → State} (h : ∀ r u, State.Runs u (f r u)) (s : State) :
    s.Runs (takeRequest kind f s) := by
  unfold takeRequest
  split
  · exact .refl s
  · split
    · exact (h _ _).since rfl rfl rfl rfl
    · exact .refl s

theorem act_runs {f : State → State} (h : ∀ u, State.Runs u (f u)) (next : act f s = .next t) : s.Runs t := by
  obtain rfl := Host.Outcome.next.inj next
  split
  · exact h s
  · split
    · split
      · exact s.chosen_evolves.runs
      · exact (h _).since rfl rfl rfl rfl
    · exact .refl s

theorem act_takeRequest_runs {kind : Byte} {f : Request → State → State} (h : ∀ r u, State.Runs u (f r u))
    (next : act (takeRequest kind f) s = .next t) : s.Runs t :=
  act_runs (takeRequest_runs h) next

theorem act_evolves {f : State → State} (h : ∀ u, State.Evolves u (f u)) (next : act f s = .next t) : s.Runs t :=
  act_runs (fun u => (h u).runs) next

theorem act_takeRequest_evolves {kind : Byte} {f : Request → State → State} (h : ∀ r u, State.Evolves u (f r u))
    (next : act (takeRequest kind f) s = .next t) : s.Runs t :=
  act_takeRequest_runs (fun r u => (h r u).runs) next

/-- What one command can do to what the links hold. -/
theorem exec_runs (c : Instr) (next : exec c s = .next t) : s.Runs t := by
  have freed : ∀ {f : State → State}, (∀ u, State.Evolves u (f u)) → ∀ u, State.Evolves u (f u).serveFreed :=
    fun h u => (h u).trans (State.serveFreed_evolves _)
  cases c with
  | frameArrival bytes => exact act_evolves (·.endTransaction_evolves bytes) next
  | readLeadByte => exact act_evolves (·.beginTransaction_evolves readLead) next
  | readEnd shifted => exact act_evolves (·.endRead_evolves shifted) next
  | restart => exact act_evolves (·.restart_evolves .commanded) next
  | resetAssert =>
    obtain rfl := Host.Outcome.next.inj next
    split
    · exact (s.cutWrite_evolves.trans (t := s.cutWrite) (u := s.holdReset) (.of_eq rfl rfl rfl rfl)).runs
    · exact State.Evolves.runs (.of_eq rfl rfl rfl rfl)
  | resetRelease =>
    obtain rfl := Host.Outcome.next.inj next
    split
    · split
      · exact (State.restart_evolves _ .pin).runs.since rfl rfl rfl rfl
      · exact State.Evolves.runs (.of_eq rfl rfl rfl rfl)
    · exact .refl s
  | powerOn =>
    obtain rfl := Host.Outcome.next.inj next
    exact (State.restart_evolves _ .power).runs.since rfl rfl rfl rfl
  | powerLoss =>
    obtain rfl := Host.Outcome.next.inj next
    split
    · exact s.losePower_evolves.runs
    · exact .refl s
  | hello => exact act_takeRequest_evolves takeHello_evolves next
  | status => exact act_takeRequest_evolves takeStatus_evolves next
  | unknownKind => exact act_evolves State.takeUnknown_evolves next
  | rootLoad => exact act_takeRequest_evolves takeRootLoad_evolves next
  | rootErase => exact act_takeRequest_evolves takeRootErase_evolves next
  | rootRead => exact act_takeRequest_evolves takeRootRead_evolves next
  | attach => exact act_takeRequest_runs takeAttach_runs next
  | detach =>
    exact act_takeRequest_evolves (fun r u => onAttached_evolves r u fun l e =>
      (u.detachLink_evolves l e).trans (State.place_evolves _ _)) next
  | policy => exact act_takeRequest_evolves takePolicy_evolves next
  | linkRead => exact act_takeRequest_evolves takeLinkRead_evolves next
  | keyRead => exact act_takeRequest_evolves (fun r u => onAttached_evolves r u fun _ _ => u.place_evolves _) next
  | renew => exact act_takeRequest_evolves takeRenew_evolves next
  | encipher => exact act_takeRequest_evolves takeEncipher_evolves next
  | decipher => exact act_takeRequest_evolves takeDecipher_evolves next
  | faultRead => exact act_takeRequest_evolves (fun r u => onAttached_evolves r u fun _ _ => u.place_evolves _) next
  | faultClear => exact act_takeRequest_evolves takeFaultClear_evolves next
  | faultEnable => exact act_takeRequest_evolves takeFaultEnable_evolves next
  | counterSet => exact act_takeRequest_evolves takeCounterSet_evolves next
  | noticeMode => exact act_takeRequest_evolves takeNoticeMode_evolves next
  | logRead => exact act_takeRequest_evolves takeLogRead_evolves next
  | tick => exact act_evolves State.tick_evolves next
  | graceExpiry l => exact act_evolves (·.expireGrace_evolves l) next
  | offerTimerExpiry l => exact act_evolves (freed (·.expireOffer_evolves l)) next
  | askTimerExpiry l => exact act_evolves (freed (·.expireAsk_evolves l)) next
  | restTimerExpiry l => exact act_evolves (freed (·.expireRest_evolves l)) next
  | renewalTimerExpiry l => exact act_evolves (freed (·.expireRenewal_evolves l)) next
  | silenceExpiry l => exact act_evolves (freed (·.expireSilence_evolves l)) next
  | beatExpiry l => exact act_evolves (freed (·.expireBeat_evolves l)) next
  | preparingOfferRequest l => exact act_evolves (freed (·.takePreparing_evolves l)) next
  | askingAskRequest l => exact act_evolves (freed (·.takeAsking_evolves l)) next
  | retryOwedRequest l => exact act_evolves (freed (·.takeRetry_evolves l)) next
  | confirmBeatRequest l => exact act_evolves (freed (·.takeConfirm_evolves l)) next
  | grant lane => exact act_evolves (·.grant_evolves lane) next
  | encipherCompletion lane => exact act_evolves (·.completeEncipher_evolves lane) next
  | trafficDecipherCompletion lane => exact act_runs (·.completeTraffic_runs lane) next
  | rootDecipherCompletion lane => exact act_runs (·.completeRoot_runs lane) next
  | controlJobCompletion lane => exact act_evolves (·.completeControl_evolves lane) next
  | nvWriteStart => exact act_evolves State.startWrite_evolves next
  | nvWriteCompletion =>
    refine act_runs (fun u => ?_) next
    unfold State.completeWrite
    split
    · exact .refl u
    · exact u.finishWrite_runs _

/-- What one step can do to what the links hold. -/
theorem step_runs (next : step s = .next t) : s.Runs t := by
  unfold step at next
  split at next
  · obtain rfl := Host.Outcome.next.inj next
    exact State.Evolves.runs (.of_eq rfl rfl rfl rfl)
  · exact (exec_runs _ next).since rfl rfl rfl rfl

/-! ## Invariants of the holdings -/

/-- A property that every move keeps, moves keep. -/
theorem Moves.keeps {p : Holding → Prop} (move : ∀ {h h'}, Move h h' → p h → p h') {h h' : Holding} (m : Moves h h')
    (start : p h) : p h' := by
  induction m with
  | refl => exact start
  | tail _ last ih => exact move last ih

/-- A property of holdings is kept by a step when the moves keep it, an ATTACH and an installation bring it about, and so
does the good verdict after a promotion, from what a promotion leaves and moves keep. -/
theorem Course.keeps {offer : OfferText → Prop} {p q : Holding → Prop} (move : ∀ {h h'}, Move h h' → p h → p h')
    (between : ∀ {h h'}, Move h h' → q h → q h')
    (promoted : ∀ {h : Holding} {e had owed}, p h → h.entry = some e → h.keys.next.isSome → q (h.promoted e had owed))
    (good : ∀ {h : Holding}, q h → p h.good) {h h' : Holding}
    (attached : ∀ e c items, h.entry = none → p { h with entry := some (attachedEntry e c items) })
    (installed : ∀ e x tick, offer x → h.entry = some e → h.keys.installation x ≠ .stale → p (h.installed e x tick))
    (start : p h) (course : Course offer h h') : p h' := by
  cases course with
  | moves m => exact m.keeps move start
  | attach e c items closed m => exact m.keeps move (attached e c items closed)
  | install e x tick held entry fresh m => exact m.keeps move (installed e x tick held entry fresh)
  | promotion a b e had owed m entry next n o =>
    exact o.keeps move (good (n.keeps between (promoted (m.keeps move start) entry next)))

end Sys2Proof.Machine
end

section
/-! PROOFS. The ranges of policies, key slots, held OFFERs and tries are kept by every step (R17, R38, R39, R46, R88,
R115). -/

namespace Sys2Proof.Machine

open Sys2Proof

/-! ## Policies (R115, R116) -/

theorem Policy.default_sound : Policy.default.Sound := by
  simp [Policy.Sound, Policy.default]

/-- A field written is clamped to its range, and no other field moves. -/
theorem Policy.write_sound {p : Policy} (h : p.Sound) (item : PolicyItem) : (p.write item).Sound := by
  unfold Policy.Sound at h ⊢
  unfold Policy.write
  split
  case h_4 number =>
    simp only [clampField, number, policyBounds, true_and] at h ⊢
    split <;> omega
  case h_12 => exact h
  case h_13 => exact h
  case h_14 => exact h
  all_goals
    next number =>
      simp only [clampField, number, policyBounds, Nat.reduceEqDiff, false_and, if_false, maxWord] at h ⊢
      omega

theorem Policy.writeAll_sound {p : Policy} (h : p.Sound) (items : List PolicyItem) : (p.writeAll items).Sound := by
  unfold Policy.writeAll
  induction items generalizing p with
  | nil => exact h
  | cons item rest ih => exact ih (Policy.write_sound h item)

/-! ## The inbound window (R46, R47) -/

theorem mem_insertRising {n m : Nat} {xs : List Nat} : m ∈ insertRising n xs ↔ m = n ∨ m ∈ xs := by
  induction xs with
  | nil => simp [insertRising]
  | cons x rest ih =>
    unfold insertRising
    split_ifs with below same
    · simp
    · simp [same]
    · simp [ih, or_left_comm]

theorem insertRising_rising {n : Nat} {xs : List Nat} (h : xs.Pairwise (· < ·)) :
    (insertRising n xs).Pairwise (· < ·) := by
  induction xs with
  | nil => simp [insertRising]
  | cons x rest ih =>
    obtain ⟨above, rising⟩ := List.pairwise_cons.mp h
    unfold insertRising
    split_ifs with below same
    · refine List.pairwise_cons.mpr ⟨fun m hm => ?_, h⟩
      rcases List.mem_cons.mp hm with rfl | hm
      · exact below
      · exact below.trans (above m hm)
    · exact h
    · refine List.pairwise_cons.mpr ⟨fun m hm => ?_, ih rising⟩
      rcases mem_insertRising.mp hm with rfl | hm
      · omega
      · exact above m hm

/-- An accepted sequence leaves the window sound: it becomes H, or it lies between H - 63 and H. -/
theorem Window.accept_sound {w : Window} {n : Nat} (h : w.Sound) (accepted : w.judge n = .accepted) :
    (w.accept n).Sound := by
  obtain ⟨rising, range, top⟩ := h
  unfold Window.accept
  split
  · next above =>
    refine ⟨?_, ?_, fun _ => by simp⟩
    · refine List.pairwise_append.mpr ⟨rising.filter _, List.pairwise_singleton _ _, ?_⟩
      intro x hx y hy
      have := (range x (List.mem_of_mem_filter hx)).1
      rw [List.mem_singleton] at hy
      omega
    · intro x hx
      rcases List.mem_append.mp hx with hx | hx
      · have near : n ≤ x + 63 := by simpa using (List.mem_filter.mp hx).2
        have := (range x (List.mem_of_mem_filter hx)).1
        dsimp only
        omega
      · rw [List.mem_singleton.mp hx]
        dsimp only
        omega
  · next below =>
    have near : ¬ n + 63 < w.high := by
      intro late
      simp [Window.judge, below, late] at accepted
    refine ⟨insertRising_rising rising, ?_, fun positive => mem_insertRising.mpr (.inr (top positive))⟩
    intro x hx
    rcases mem_insertRising.mp hx with rfl | hx
    · dsimp only
      omega
    · exact range x hx

/-! ## Key slots (R17, R18, R37, R38, R42) -/

theorem newSlot_sound {p : Policy} (h : p.Sound) {epoch : Nat} (low : 1 ≤ epoch) (high : epoch ≤ 255) (key : Key)
    (salt : Salt) (tick : Nat) : (newSlot p epoch key salt tick).Sound := by
  obtain ⟨-, -, -, -, -, ⟨wear, wearTop⟩, ⟨eighth, eighths⟩, -⟩ := h
  have threshold : 512 ≤ p.wearLimit * p.softEighths / 8 ∧ p.wearLimit * p.softEighths / 8 + 512 ≤ p.wearLimit := by
    have least := Nat.mul_le_mul_left p.wearLimit eighth
    have most := Nat.mul_le_mul_left p.wearLimit eighths
    omega
  refine ⟨low, high, wear, wearTop, threshold.1, threshold.2, Nat.zero_le _, le_rfl, Nat.zero_le _, ?_⟩
  simp [Window.Sound, newSlot]

theorem KeySlot.Used.sound {k k' : KeySlot} (used : k.Used k') (h : k.Sound) : k'.Sound := by
  obtain ⟨low, high, wear, wearTop, soft, softTop, blocks', sequence, opened, window⟩ := h
  cases used with
  | protects n fits =>
    simp only [KeySlot.canProtect, Bool.and_eq_true, decide_eq_true_eq] at fits
    refine ⟨low, high, wear, wearTop, soft, softTop, fits.2, ?_, opened, window⟩
    simp only [KeySlot.chargeOut, blocks]
    omega
  | accepts n q accepted =>
    exact ⟨low, high, wear, wearTop, soft, softTop, blocks', sequence, Nat.min_le_right _ _,
      Window.accept_sound window accepted⟩
  | crosses => exact ⟨low, high, wear, wearTop, soft, softTop, blocks', sequence, opened, window⟩

theorem nextEpoch_range (n : Nat) : 1 ≤ nextEpoch n ∧ nextEpoch n ≤ 255 := by
  unfold nextEpoch
  omega

theorem KeySet.offerEpoch_range (k : KeySet) : 1 ≤ k.offerEpoch ∧ k.offerEpoch ≤ 255 := by
  unfold KeySet.offerEpoch
  split
  · exact nextEpoch_range _
  · omega

/-- Every slot of a key set is sound. -/
def KeySet.Sound (k : KeySet) : Prop := ∀ role x, k.slot role = some x → x.Sound

theorem KeySet.sound_iff {k : KeySet} : k.Sound ↔
    (∀ x, k.next = some x → x.Sound) ∧ (∀ x, k.current = some x → x.Sound) ∧ ∀ x, k.previous = some x → x.Sound :=
  ⟨fun h => ⟨h .next, h .current, h .previous⟩, fun ⟨n, c, p⟩ role => by cases role <;> assumption⟩

theorem KeySet.withSlot_sound {k : KeySet} (h : k.Sound) (role : SlotRole) {x : KeySlot} (sound : x.Sound) :
    (k.withSlot role (some x)).Sound := by
  rw [KeySet.sound_iff] at h ⊢
  obtain ⟨n, c, p⟩ := h
  have only : ∀ y, some x = some y → y.Sound := by rintro y ⟨⟩; exact sound
  cases role
  · exact ⟨only, c, p⟩
  · exact ⟨n, only, p⟩
  · exact ⟨n, c, only⟩

theorem KeySet.install_sound {k : KeySet} (h : k.Sound) (how : Installation) (epoch : Nat) {x : KeySlot}
    (sound : x.Sound) : (k.install how epoch x).Sound := by
  rw [KeySet.sound_iff] at h ⊢
  obtain ⟨n, c, p⟩ := h
  have only : ∀ y, some x = some y → y.Sound := by rintro y ⟨⟩; exact sound
  unfold KeySet.install
  split
  · exact ⟨n, c, p⟩
  · exact ⟨n, c, p⟩
  · exact ⟨only, nofun, nofun⟩
  · split
    · exact ⟨only, c, nofun⟩
    · exact ⟨only, c, p⟩

/-! ## What a link holds -/

/-- The policy and the key slots a link holds are sound, and its tries in their range. -/
structure Holding.SlotsSound (h : Holding) : Prop where
  policy : ∀ e, h.entry = some e → e.policy.Sound
  keys : h.keys.Sound
  tries : h.renewal.triesUsed ≤ 7
  owed : h.renewal.retryOwed = true → h.renewal.triesUsed ≤ 6

theorem LinkEntry.Changed.policy_sound {e e' : LinkEntry} (changed : e.Changed e') (h : e.policy.Sound) :
    e'.policy.Sound := by
  cases changed with
  | beat timer => exact h
  | policy items outbound => exact Policy.writeAll_sound h items
  | tick => exact h
  | silent _ => unfold LinkEntry.silent; split <;> exact h
  | loseLock _ => exact h
  | bad => unfold LinkEntry.bad; split <;> exact h
  | good =>
    unfold LinkEntry.good
    split
    · exact h
    · split <;> exact h
    · exact h
    · exact h

variable {h h' : Holding}

theorem Holding.MayRetry.tries (retry : h.MayRetry) (sound : h.SlotsSound) : h.renewal.triesUsed ≤ 6 := by
  rcases retry with owed | ⟨e, entry, remain⟩
  · exact sound.owed owed
  · obtain ⟨-, -, -, -, -, -, -, -, -, ⟨-, most⟩, -⟩ := sound.policy e entry
    omega

theorem Move.slotsSound (move : Move h h') (sound : h.SlotsSound) : h'.SlotsSound := by
  obtain ⟨next, current, previous⟩ := KeySet.sound_iff.mp sound.keys
  cases move with
  | slot role k k' slot used =>
    exact { sound with keys := KeySet.withSlot_sound sound.keys role (used.sound (sound.keys role k slot)) }
  | eraseNext => exact { sound with keys := KeySet.sound_iff.mpr ⟨nofun, current, previous⟩ }
  | createNext e key salt tick entry _ =>
    have new := newSlot_sound (sound.policy e entry) h.keys.offerEpoch_range.1 h.keys.offerEpoch_range.2 key salt tick
    exact { sound with keys := KeySet.sound_iff.mpr ⟨by rintro x ⟨⟩; exact new, current, previous⟩ }
  | graceExpires => exact { sound with keys := KeySet.sound_iff.mpr ⟨next, current, nofun⟩ }
  | entry e e' entry changed =>
    exact { sound with policy := by rintro x ⟨⟩; exact changed.policy_sound (sound.policy e entry) }
  | renewal d advances =>
    refine { sound with tries := ?_, owed := fun owed => ?_ }
    · rcases advances.tries with same | few
      · exact same ▸ sound.tries
      · exact few.trans (by omega)
    · rcases advances.tries with same | few
      · exact same ▸ sound.owed (advances.owed owed)
      · exact few.trans (by omega)
  | prepare e _ _ => exact { sound with tries := Nat.zero_le _, owed := fun _ => Nat.zero_le _ }
  | retry retry =>
    exact { sound with tries := Nat.succ_le_succ (retry.tries sound), owed := nofun }
  | owe retry => exact { sound with owed := fun _ => retry.tries sound }
  | reload ticks _ => exact ⟨sound.policy, sound.keys, sound.tries, sound.owed⟩
  | tick =>
    refine ⟨fun e' entry => ?_, KeySet.sound_iff.mpr ⟨next, current, previous⟩, sound.tries, sound.owed⟩
    obtain ⟨e, before, rfl⟩ := Option.map_eq_some_iff.mp entry
    exact sound.policy e before
  | close => exact ⟨nofun, KeySet.sound_iff.mpr ⟨nofun, nofun, nofun⟩, Nat.zero_le _, nofun⟩

theorem Holding.SlotsSound.promoted {e : LinkEntry} (sound : h.SlotsSound) (entry : h.entry = some e)
    (hadOutbound owed : Bool) : (h.promoted e hadOutbound owed).SlotsSound := by
  obtain ⟨next, current, previous⟩ := KeySet.sound_iff.mp sound.keys
  exact ⟨by rintro x ⟨⟩; exact sound.policy e entry, KeySet.sound_iff.mpr ⟨nofun, next, current⟩, sound.tries, nofun⟩

theorem Holding.SlotsSound.good (sound : h.SlotsSound) : h.good.SlotsSound := by
  refine { sound with policy := fun e' entry => ?_ }
  obtain ⟨e, before, rfl⟩ := Option.map_eq_some_iff.mp entry
  exact LinkEntry.Changed.good.policy_sound (sound.policy e before)

theorem Holding.SlotsSound.installed {e : LinkEntry} {x : OfferText} (sound : h.SlotsSound) (entry : h.entry = some e)
    (epoch : 1 ≤ x.epoch ∧ x.epoch ≤ 255) (tick : Nat) : (h.installed e x tick).SlotsSound := by
  have keys := KeySet.install_sound sound.keys (h.keys.installation x) x.epoch
    (newSlot_sound (sound.policy e entry) epoch.1 epoch.2 x.key x.salt tick)
  unfold Holding.installed
  dsimp only
  split
  · exact ⟨by rintro y ⟨⟩; exact sound.policy e entry, keys, sound.tries, sound.owed⟩
  · exact { sound with keys := keys }

/-! ## The step -/

theorem State.slotsSound_iff {s : State} :
    s.SlotsSound ↔ (∀ l, (s.holding l).SlotsSound) ∧ ∀ l x, s.Holds l (.offer x) → 1 ≤ x.epoch ∧ x.epoch ≤ 255 := by
  constructor
  · rintro ⟨policy, keys, held, tries⟩
    refine ⟨fun l => ⟨policy l, keys l, (tries l).1, (tries l).2⟩, ?_⟩
    rintro l x ⟨j, hj, -, state⟩
    exact held j hj x state
  · rintro ⟨links, held⟩
    exact ⟨fun l => (links l).policy, fun l => (links l).keys, fun j hj x state => held j.link x ⟨j, hj, rfl, state⟩,
      fun l => ⟨(links l).tries, (links l).owed⟩⟩

/-- An OFFER's plaintext carries an epoch of one byte, and 0 fails its check (R13). -/
theorem rootContentOf_epoch {role : Role} {p : List Byte} {x : OfferText}
    (fit : rootContentOf role p = some (.offer x)) : 1 ≤ x.epoch ∧ x.epoch ≤ 255 := by
  cases role with
  | hub =>
    obtain ⟨_, _, no⟩ := Option.map_eq_some_iff.mp fit
    cases no
  | shop =>
    obtain ⟨y, text, same⟩ := Option.map_eq_some_iff.mp fit
    cases same
    unfold offerOf at text
    split at text
    · contradiction
    · next range =>
      cases text
      have := (byteAt p 0).isLt
      dsimp only
      omega

/-- Settles O52, by the moves of what a link holds. -/
theorem stepKeepsSlots : Obligations.StepKeepsSlots := by
  unfold Obligations.StepKeepsSlots
  intro s t sound next
  obtain ⟨links, held⟩ := State.slotsSound_iff.mp sound
  have runs := step_runs next
  refine State.slotsSound_iff.mpr ⟨fun l => ?_, fun l x holds => ?_⟩
  · refine (runs.course l).keeps Move.slotsSound Move.slotsSound
      (fun sound entry _ => sound.promoted entry _ _) Holding.SlotsSound.good ?_ ?_ (links l)
    · intro e c items _
      exact { links l with policy := by rintro y ⟨⟩; exact Policy.writeAll_sound Policy.default_sound items }
    · intro e x tick offered entry _
      exact (links l).installed entry (held l x offered) tick
  · rcases runs.held l _ holds with before | ⟨e, p, -, fit⟩
    · exact held l x before
    · exact rootContentOf_epoch fit

end Sys2Proof.Machine
end

section
/-! PROOFS. A link is in HUNT, UP or FAILING exactly while it holds a CURRENT, and its timers run exactly then: kept by
every step (R26, R106, R113, R114, R129). -/

namespace Sys2Proof.Machine

open Sys2Proof

/-- The counts of an entry fit its state, and its silence timer runs only outside KEYLESS; where its verdicts have been
taken (`judged`) it runs exactly there (R113, R129). Between a promotion and the good verdict on the record that brought it
about they have not. -/
structure LinkEntry.Supervised (judged : Prop) (e : LinkEntry) : Prop where
  silence : e.silenceTimer.isOn = true → e.state ≠ .keyless
  heard : judged → e.state ≠ .keyless → e.silenceTimer.isOn = true
  good : e.goodCount ≠ 0 → e.state = .hunt
  bad : e.badCount ≠ 0 → e.state = .failing

/-- What an attached link holds fits its supervision state. -/
structure Holding.Supervised (judged : Prop) (h : Holding) (e : LinkEntry) : Prop where
  entry : e.Supervised judged
  current : h.keys.current.isSome ↔ e.state ≠ .keyless
  renewal : h.renewal.renewalTimer.isOn = true ↔ e.state ≠ .keyless
  grace : h.keys.grace.isOn = true ↔ h.keys.previous.isSome

/-- What a link holds fits its supervision state, if it is attached. -/
def Holding.SupervisionSound (judged : Prop) (h : Holding) : Prop := ∀ e, h.entry = some e → h.Supervised judged e

/-! ## Timers and entries -/

@[simp] theorem Timer.isOn_tick (t : Timer) : t.tick.isOn = t.isOn := by
  unfold Timer.tick
  split
  · rfl
  · split <;> rfl
  · rfl

@[simp] theorem Timer.isOn_running (n : Nat) : (Timer.running n).isOn = true := rfl

@[simp] theorem Timer.isOn_stopped : Timer.stopped.isOn = false := rfl

variable {judged : Prop} {e e' : LinkEntry}

/-- A silence expiry leaves the link in HUNT where it was in UP or FAILING. -/
theorem LinkEntry.Supervised.silent (h : e.Supervised judged) (expiring : e.silenceTimer = .expiring) :
    e.silent.Supervised judged ∧ (e.silent.state = .keyless ↔ e.state = .keyless) := by
  have attached : e.state ≠ .keyless := h.silence (by rw [expiring]; rfl)
  unfold LinkEntry.silent
  split
  case h_1 keyless => exact absurd keyless attached
  case h_2 => exact ⟨⟨fun _ => attached, fun _ _ => rfl, h.good, h.bad⟩, Iff.rfl⟩
  case h_3 => exact ⟨⟨by simp, fun _ _ => rfl, by simp, by simp⟩, by simp [attached]⟩
  case h_4 => exact ⟨⟨by simp, fun _ _ => rfl, by simp, by simp⟩, by simp [attached]⟩

/-- A bad verdict counts in HUNT and FAILING, and leaves UP for FAILING. -/
theorem LinkEntry.Supervised.bad_verdict (h : e.Supervised judged) :
    e.bad.Supervised judged ∧ (e.bad.state = .keyless ↔ e.state = .keyless) := by
  obtain ⟨silence, heard, good, bad⟩ := h
  unfold LinkEntry.bad
  split
  case h_1 => exact ⟨⟨silence, heard, good, bad⟩, Iff.rfl⟩
  case h_2 state => exact ⟨⟨silence, heard, by simp, bad⟩, Iff.rfl⟩
  case h_3 state =>
    simp only [state, ne_eq, reduceCtorEq, not_false_eq_true, implies_true, imp_false, not_not, forall_const] at *
    exact ⟨⟨by simp, by simpa using heard, by simpa using good, by simp⟩, by simp⟩
  case h_4 state => exact ⟨⟨silence, heard, good, fun _ => state⟩, Iff.rfl⟩

/-- A good verdict outside KEYLESS reloads the silence timer, so that it is heard. -/
theorem LinkEntry.Supervised.good_verdict {after : Prop} (h : e.Supervised judged) :
    e.good.Supervised after ∧ (e.good.state = .keyless ↔ e.state = .keyless) := by
  obtain ⟨silence, heard, good, bad⟩ := h
  unfold LinkEntry.good
  split
  case h_1 state => exact ⟨⟨silence, fun _ attached => absurd state attached, good, bad⟩, Iff.rfl⟩
  case h_2 state =>
    split
    · exact ⟨⟨by simp, fun _ _ => rfl, by simp, by simpa [state] using bad⟩, by simp [state]⟩
    · exact ⟨⟨by simp [state], fun _ _ => rfl, fun _ => state, bad⟩, Iff.rfl⟩
  case h_3 state => exact ⟨⟨by simp [state], fun _ _ => rfl, good, bad⟩, Iff.rfl⟩
  case h_4 state =>
    exact ⟨⟨by simp, fun _ _ => rfl, by simpa [state] using good, by simp⟩, by simp [state]⟩

/-- No event of the link supervisor but a promotion and the loss of CURRENT moves a link into KEYLESS or out of it. -/
theorem LinkEntry.Changed.supervised (changed : e.Changed e') (h : e.Supervised judged) :
    e'.Supervised judged ∧ (e'.state = .keyless ↔ e.state = .keyless) := by
  cases changed with
  | beat timer => exact ⟨⟨h.silence, h.heard, h.good, h.bad⟩, Iff.rfl⟩
  | policy items outbound => exact ⟨⟨h.silence, h.heard, h.good, h.bad⟩, Iff.rfl⟩
  | tick =>
    refine ⟨⟨?_, ?_, h.good, h.bad⟩, Iff.rfl⟩
    · simpa [LinkEntry.tick] using h.silence
    · simpa [LinkEntry.tick] using h.heard
  | silent expiring => exact h.silent expiring
  | loseLock loses =>
    have attached : e.state ≠ .keyless := by
      intro keyless
      simp [LinkEntry.losesLock, keyless] at loses
    exact ⟨⟨by simp, fun now _ => h.heard now attached, by simp, by simp⟩, by simp [attached]⟩
  | bad => exact h.bad_verdict
  | good => exact h.good_verdict

/-! ## Key sets -/

/-- A slot replaced by a slot leaves occupied what was, and the grace timer as it was. -/
theorem KeySet.withSlot_occupied {k : KeySet} {role : SlotRole} {x : KeySlot} (slot : k.slot role = some x)
    (x' : KeySlot) : (k.withSlot role (some x')).current.isSome = k.current.isSome ∧
    (k.withSlot role (some x')).previous.isSome = k.previous.isSome ∧ (k.withSlot role (some x')).grace = k.grace := by
  cases role <;> simp_all [KeySet.withSlot, KeySet.slot]

/-- An installation that does not take CURRENT away leaves it, and its grace timer with a PREVIOUS or stopped. -/
theorem KeySet.install_keeps {k : KeySet} {how : Installation} (keeps : k.losesCurrent how = false)
    (grace : k.grace.isOn = true ↔ k.previous.isSome) (epoch : Nat) (x : KeySlot) :
    (k.install how epoch x).current.isSome = k.current.isSome ∧
    ((k.install how epoch x).grace.isOn = true ↔ (k.install how epoch x).previous.isSome) := by
  unfold KeySet.install
  split
  case h_1 => exact ⟨rfl, grace⟩
  case h_2 => exact ⟨rfl, grace⟩
  case h_3 =>
    have none : k.current.isSome = false := by simpa [KeySet.losesCurrent] using keeps
    exact ⟨by simp [KeySet.empty] at none ⊢; exact none.symm ▸ rfl, by simp [KeySet.empty]⟩
  case h_4 =>
    split
    · exact ⟨rfl, by simp [KeySet.erasePrevious]⟩
    · exact ⟨rfl, grace⟩

/-! ## What a link holds -/

variable {h h' : Holding}

theorem Move.supervisionSound (move : Move h h') (sound : h.SupervisionSound judged) : h'.SupervisionSound judged := by
  intro e' entry'
  cases move with
  | slot role k k' slot used =>
    obtain ⟨entry, current, renewal, grace⟩ := sound e' entry'
    obtain ⟨sameCurrent, samePrevious, sameGrace⟩ := KeySet.withSlot_occupied slot k'
    exact ⟨entry, sameCurrent ▸ current, renewal, by rw [sameGrace, samePrevious]; exact grace⟩
  | eraseNext | createNext | prepare | retry | owe =>
    obtain ⟨entry, current, renewal, grace⟩ := sound e' entry'
    exact ⟨entry, current, renewal, grace⟩
  | graceExpires =>
    obtain ⟨entry, current, renewal, -⟩ := sound e' entry'
    exact ⟨entry, current, renewal, by simp [KeySet.erasePrevious]⟩
  | entry e _ before changed =>
    cases entry'
    obtain ⟨entry, current, renewal, grace⟩ := sound e before
    obtain ⟨after, state⟩ := changed.supervised entry
    exact ⟨after, by rw [current, Ne, Ne, state], by rw [renewal, Ne, Ne, state], grace⟩
  | renewal d advances =>
    obtain ⟨entry, current, renewal, grace⟩ := sound e' entry'
    exact ⟨entry, current, by rw [advances.renewalTimer]; exact renewal, grace⟩
  | reload ticks expiring =>
    obtain ⟨entry, current, renewal, grace⟩ := sound e' entry'
    rw [expiring] at renewal
    exact ⟨entry, current, renewal, grace⟩
  | tick =>
    obtain ⟨e, before, rfl⟩ := Option.map_eq_some_iff.mp entry'
    obtain ⟨entry, current, renewal, grace⟩ := sound e before
    obtain ⟨after, -⟩ := LinkEntry.Changed.tick.supervised entry
    exact ⟨after, current, by simpa [RenewalContext.tick, LinkEntry.tick] using renewal, by simpa [KeySet.tick] using grace⟩
  | close => cases entry'

theorem Holding.SupervisionSound.promoted (sound : h.SupervisionSound True) (entry : h.entry = some e)
    (next : h.keys.next.isSome) (hadOutbound owed : Bool) : (h.promoted e hadOutbound owed).SupervisionSound False := by
  rintro e' ⟨⟩
  obtain ⟨⟨silence, -, good, bad⟩, -, -, -⟩ := sound e entry
  have hunt : (e.promoted hadOutbound).state ≠ .keyless := by
    unfold LinkEntry.promoted
    dsimp only
    split
    · nofun
    · assumption
  refine ⟨⟨fun _ => hunt, nofun, fun counted => ?_, fun counted => ?_⟩, ?_, ?_, ?_⟩
  · simp [LinkEntry.promoted, good counted]
  · simp [LinkEntry.promoted, bad counted]
  · simpa [Holding.promoted, KeySet.promote, hunt] using next
  · simp [Holding.promoted, RenewalContext.promoted, hunt]
  · cases current : h.keys.current <;> simp [Holding.promoted, KeySet.promote, current]

theorem Holding.SupervisionSound.good {after : Prop} (sound : h.SupervisionSound judged) :
    h.good.SupervisionSound after := by
  intro e' entry'
  obtain ⟨e, before, rfl⟩ := Option.map_eq_some_iff.mp entry'
  obtain ⟨entry, current, renewal, grace⟩ := sound e before
  obtain ⟨verdict, state⟩ := entry.good_verdict (after := after)
  exact ⟨verdict, by rw [Ne, state]; exact current, by rw [Ne, state]; exact renewal, grace⟩

theorem Holding.SupervisionSound.installed {x : OfferText} (sound : h.SupervisionSound judged)
    (entry : h.entry = some e) (tick : Nat) : (h.installed e x tick).SupervisionSound judged := by
  unfold Holding.installed
  dsimp only
  split
  · next loses =>
    obtain ⟨how, -⟩ : h.keys.installation x = .replaceAll ∧ h.keys.current.isSome := by
      simpa [KeySet.losesCurrent] using loses
    rintro e' ⟨⟩
    rw [how]
    exact ⟨⟨by simp, by simp, by simp, by simp⟩, by simp [KeySet.install, KeySet.empty], by simp,
      by simp [KeySet.install, KeySet.empty]⟩
  · next keeps =>
    intro e' same
    cases entry.symm.trans same
    obtain ⟨judgedEntry, current, renewal, grace⟩ := sound e entry
    obtain ⟨sameCurrent, installedGrace⟩ := KeySet.install_keeps (Bool.eq_false_iff.mpr keeps) grace x.epoch
      (newSlot e.policy x.epoch x.key x.salt tick)
    exact ⟨judgedEntry, sameCurrent ▸ current, renewal, installedGrace⟩

/-! ## The step -/

theorem State.supervisionSound_iff {s : State} :
    s.SupervisionSound ↔ ∀ l, (s.holding l).SupervisionSound True := by
  constructor
  · intro sound l e entry
    obtain ⟨current, silence, renewal, grace, good, bad⟩ := sound l e entry
    exact ⟨⟨silence.mp, fun _ => silence.mpr, good, bad⟩, current, renewal, grace⟩
  · intro sound l e entry
    obtain ⟨⟨silence, heard, good, bad⟩, current, renewal, grace⟩ := sound l e entry
    exact ⟨current, ⟨silence, heard trivial⟩, renewal, grace, good, bad⟩

/-- What a CLOSED link holds (R114). -/
theorem State.BindingsSound.closed {s : State} (sound : s.BindingsSound) {l : Link} (entry : s.entry l = none) :
    s.holding l = .closed := by
  obtain ⟨keys, renewal, -⟩ := sound.2 l entry
  simp [State.holding, Holding.closed, entry, keys, renewal]

/-- Settles O55, by the moves of what a link holds. -/
theorem stepKeepsSupervision : Obligations.StepKeepsSupervision := by
  unfold Obligations.StepKeepsSupervision
  intro s t bindings sound next
  rw [State.supervisionSound_iff] at sound ⊢
  intro l
  refine ((step_runs next).course l).keeps Move.supervisionSound Move.supervisionSound
    (fun sound entry next => sound.promoted entry next _ _) Holding.SupervisionSound.good ?_ ?_ (sound l)
  · intro e c items closed
    rw [bindings.closed closed]
    rintro e' ⟨⟩
    exact ⟨⟨by simp [attachedEntry], by simp [attachedEntry], by simp [attachedEntry], by simp [attachedEntry]⟩,
      by simp [Holding.closed, KeySet.empty, attachedEntry], by simp [Holding.closed, RenewalContext.initial, attachedEntry],
      by simp [Holding.closed, KeySet.empty]⟩
  · intro e x tick _ entry _
    exact (sound l).installed entry tick

end Sys2Proof.Machine
end

section
/-! PROOFS. The epochs of a link's slots stay distinct, and at a hub consecutive (R19, R20). -/

namespace Sys2Proof.Machine

open Sys2Proof

/-! ## The epochs of a key set -/

/-- The epoch of the slot of a role. -/
def KeySet.epochOf (k : KeySet) (role : SlotRole) : Option Nat := (k.slot role).map KeySlot.epoch

/-- The occupied slots have distinct epochs (R19). -/
def KeySet.Distinct (k : KeySet) : Prop := ∀ a b n, k.epochOf a = some n → k.epochOf b = some n → a = b

/-- From PREVIOUS to CURRENT to NEXT each epoch is the successor of the one before, and there is no PREVIOUS without a
CURRENT (R20). -/
structure KeySet.Consecutive (k : KeySet) : Prop where
  next : ∀ n c, k.epochOf .next = some n → k.epochOf .current = some c → n = nextEpoch c
  current : ∀ c p, k.epochOf .current = some c → k.epochOf .previous = some p → c = nextEpoch p
  previous : k.epochOf .current = none → k.epochOf .previous = none

variable {k k' : KeySet}

theorem KeySet.distinct_of_pairs (next : ∀ n, k.epochOf .next = some n → k.epochOf .current ≠ some n ∧
    k.epochOf .previous ≠ some n) (current : ∀ n, k.epochOf .current = some n → k.epochOf .previous ≠ some n) :
    k.Distinct := by
  rintro (_ | _ | _) (_ | _ | _) n a b
  · rfl
  · exact absurd b (next n a).1
  · exact absurd b (next n a).2
  · exact absurd a (next n b).1
  · rfl
  · exact absurd b (current n a)
  · exact absurd a (next n b).2
  · exact absurd a (current n b)
  · rfl

/-- A key set whose slots have epochs they had in their roles before keeps them distinct. -/
theorem KeySet.Distinct.mono (h : k.Distinct) (kept : ∀ role n, k'.epochOf role = some n → k.epochOf role = some n) :
    k'.Distinct :=
  fun a b n ha hb => h a b n (kept a n ha) (kept b n hb)

/-- A key set with the CURRENT epoch it had, and no new NEXT or PREVIOUS, keeps them consecutive. -/
theorem KeySet.Consecutive.mono (h : k.Consecutive) (current : k'.epochOf .current = k.epochOf .current)
    (kept : ∀ role n, k'.epochOf role = some n → k.epochOf role = some n) : k'.Consecutive where
  next n c hn hc := h.next n c (kept _ n hn) (kept _ c hc)
  current c p hc hp := h.current c p (kept _ c hc) (kept _ p hp)
  previous none := by
    refine Option.eq_none_iff_forall_ne_some.mpr fun p hp => ?_
    rw [current] at none
    cases (h.previous none).symm.trans (kept _ p hp)

/-- No epoch is its own successor, nor that of its successor (R19). -/
theorem nextEpoch_ne (n : Nat) : nextEpoch n ≠ n ∧ nextEpoch (nextEpoch n) ≠ n := by
  unfold nextEpoch
  omega

theorem KeySlot.Used.epoch {x x' : KeySlot} (used : x.Used x') : x'.epoch = x.epoch := by
  cases used <;> rfl

theorem KeySet.epochOf_withSlot {role : SlotRole} {x x' : KeySlot} (slot : k.slot role = some x)
    (same : x'.epoch = x.epoch) (role' : SlotRole) : (k.withSlot role (some x')).epochOf role' = k.epochOf role' := by
  cases role <;> cases role' <;> simp_all [KeySet.epochOf, KeySet.withSlot, KeySet.slot]

theorem KeySet.epochOf_eraseNext {role : SlotRole} {n : Nat}
    (h : ({ k with next := none } : KeySet).epochOf role = some n) : k.epochOf role = some n := by
  cases role
  · cases h
  · exact h
  · exact h

theorem KeySet.epochOf_erasePrevious {role : SlotRole} {n : Nat} (h : k.erasePrevious.epochOf role = some n) :
    k.epochOf role = some n := by
  cases role
  · exact h
  · exact h
  · cases h

/-- The epoch of a hub's new NEXT is the successor of CURRENT's, and 1 without one (R20). -/
theorem KeySet.offerEpoch_eq {c : Nat} (h : k.epochOf .current = some c) : k.offerEpoch = nextEpoch c := by
  obtain ⟨x, slot, rfl⟩ := Option.map_eq_some_iff.mp h
  have current : k.current = some x := slot
  simp [KeySet.offerEpoch, current]

/-- A hub's new NEXT follows its CURRENT and so differs from both other slots (R19, R20). -/
theorem KeySet.Consecutive.createNext (h : k.Consecutive) {x : KeySlot} (epoch : x.epoch = k.offerEpoch) :
    ({ k with next := some x } : KeySet).Distinct ∧ ({ k with next := some x } : KeySet).Consecutive := by
  have follows : ∀ c, k.epochOf .current = some c → x.epoch = nextEpoch c := fun c hc =>
    epoch.trans (KeySet.offerEpoch_eq hc)
  refine ⟨KeySet.distinct_of_pairs ?_ ?_, ⟨?_, h.current, h.previous⟩⟩
  · rintro n ⟨⟩
    constructor
    · intro same
      exact (nextEpoch_ne _).1 (follows _ same).symm
    · intro same
      cases current : k.epochOf .current with
      | none =>
        have empty := h.previous current
        cases empty.symm.trans same
      | some c =>
        have after := h.current c _ current same
        have back := follows c current
        rw [after] at back
        exact (nextEpoch_ne _).2 back.symm
  · intro n current same
    exact (nextEpoch_ne n).1 (h.current n n current same).symm
  · rintro n c ⟨⟩ hc
    exact follows c hc

/-- A promotion moves the epochs of CURRENT and NEXT one role on (R24). -/
theorem KeySet.promote_epochOf (k : KeySet) (grace : Nat) : (k.promote grace).epochOf .next = none ∧
    (k.promote grace).epochOf .current = k.epochOf .next ∧ (k.promote grace).epochOf .previous = k.epochOf .current :=
  ⟨rfl, rfl, rfl⟩

theorem KeySet.Distinct.promote (h : k.Distinct) (grace : Nat) : (k.promote grace).Distinct := by
  obtain ⟨next, current, previous⟩ := k.promote_epochOf grace
  refine KeySet.distinct_of_pairs (by simp [next]) fun n hn same => ?_
  rw [current] at hn
  rw [previous] at same
  exact absurd (h _ _ n hn same) nofun

theorem KeySet.Consecutive.promote (h : k.Consecutive) (next : k.next.isSome) (grace : Nat) :
    (k.promote grace).Consecutive where
  next n c hn := by cases hn
  current c p hc hp := h.next c p hc hp
  previous none := by
    obtain ⟨x, slot⟩ := Option.isSome_iff_exists.mp next
    have occupied : (k.promote grace).epochOf .current = some x.epoch := by
      simp [KeySet.epochOf, KeySet.promote, KeySet.slot, slot]
    cases occupied.symm.trans none

/-- An OFFER's installation leaves the epochs distinct: one with CURRENT's epoch takes every slot, and one with
PREVIOUS's erases it (R22). -/
theorem KeySet.Distinct.install (h : k.Distinct) {t : OfferText} {x : KeySlot} (epoch : x.epoch = t.epoch) :
    (k.install (k.installation t) t.epoch x).Distinct := by
  unfold KeySet.install
  split
  case h_1 => exact h
  case h_2 => exact h
  case h_3 => exact KeySet.distinct_of_pairs (fun _ _ => ⟨nofun, nofun⟩) nofun
  case h_4 how =>
    have current : k.epochOf .current ≠ some t.epoch := by
      intro same
      obtain ⟨c, slot, here⟩ := Option.map_eq_some_iff.mp same
      have holds : k.holds .current (fun c => c.epoch == t.epoch) = true :=
        KeySet.holds_iff.mpr ⟨c, slot, by simpa using here⟩
      simp only [KeySet.installation, holds, if_true] at how
      split_ifs at how
    have apart : ∀ n, k.epochOf .current = some n → k.epochOf .previous ≠ some n := fun n hc hp =>
      absurd (h _ _ n hc hp) nofun
    split
    · refine KeySet.distinct_of_pairs ?_ (fun n _ same => by cases same)
      rintro n ⟨⟩
      exact ⟨by rw [epoch]; exact current, nofun⟩
    · next keeps =>
      refine KeySet.distinct_of_pairs ?_ apart
      rintro n ⟨⟩
      refine ⟨by rw [epoch]; exact current, fun same => keeps ?_⟩
      obtain ⟨p, slot, here⟩ := Option.map_eq_some_iff.mp same
      exact KeySet.holds_iff.mpr ⟨p, slot, by simp [here, epoch]⟩

/-! ## What a link holds -/

/-- The epochs a link holds are distinct, and at a hub consecutive; and none but a hub prepares an OFFER, so that none but
a hub creates its own NEXT (R20, R88). -/
structure Holding.EpochsSound (h : Holding) : Prop where
  distinct : h.keys.Distinct
  consecutive : ∀ e, h.entry = some e → e.role = .hub → h.keys.Consecutive
  preparing : ∀ e, h.entry = some e → h.renewal.state = .preparing → e.role = .hub

/-- No event of an attached link changes its role. -/
theorem LinkEntry.Changed.role {e e' : LinkEntry} (changed : e.Changed e') : e'.role = e.role := by
  cases changed with
  | beat timer => rfl
  | policy items outbound => rfl
  | tick => rfl
  | silent _ => unfold LinkEntry.silent; split <;> rfl
  | loseLock _ => rfl
  | bad => unfold LinkEntry.bad; split <;> rfl
  | good =>
    unfold LinkEntry.good
    split
    · rfl
    · split <;> rfl
    · rfl
    · rfl

variable {h h' : Holding}

/-- A move that takes no epoch but erased ones from a key set, and keeps CURRENT's. -/
theorem Holding.EpochsSound.keys (sound : h.EpochsSound) (current : k.epochOf .current = h.keys.epochOf .current)
    (kept : ∀ role n, k.epochOf role = some n → h.keys.epochOf role = some n) : { h with keys := k }.EpochsSound where
  distinct := sound.distinct.mono kept
  consecutive e entry hub := (sound.consecutive e entry hub).mono current kept
  preparing := sound.preparing

/-- A move of the renewal context that prepares no OFFER. -/
theorem Holding.EpochsSound.context (sound : h.EpochsSound) {d : RenewalContext}
    (preparing : d.state = .preparing → h.renewal.state = .preparing) : { h with renewal := d }.EpochsSound where
  distinct := sound.distinct
  consecutive := sound.consecutive
  preparing e entry now := sound.preparing e entry (preparing now)

theorem Move.epochsSound (move : Move h h') (sound : h.EpochsSound) : h'.EpochsSound := by
  cases move with
  | slot role k k' slot used =>
    have same := KeySet.epochOf_withSlot slot used.epoch
    exact sound.keys (same .current) fun role' n => by rw [same role']; exact id
  | eraseNext => exact sound.keys rfl fun _ _ => KeySet.epochOf_eraseNext
  | createNext e key salt tick entry preparing =>
    have hub := sound.preparing e entry preparing
    obtain ⟨distinct, consecutive⟩ := (sound.consecutive e entry hub).createNext
      (x := newSlot e.policy h.keys.offerEpoch key salt tick) rfl
    exact ⟨distinct, fun _ _ _ => consecutive, sound.preparing⟩
  | graceExpires => exact sound.keys rfl fun _ _ => KeySet.epochOf_erasePrevious
  | entry e e' before changed =>
    refine { sound with consecutive := ?_, preparing := ?_ }
    · rintro _ ⟨⟩ hub
      exact sound.consecutive e before (changed.role ▸ hub)
    · rintro _ ⟨⟩ preparing
      exact changed.role.trans (sound.preparing e before preparing)
  | renewal d advances => exact sound.context advances.preparing
  | prepare e entry hub =>
    refine { sound with preparing := fun e' entry' _ => ?_ }
    cases entry.symm.trans entry'
    exact hub
  | retry => exact sound.context id
  | owe => exact sound.context id
  | reload => exact sound.context id
  | tick =>
    refine ⟨sound.distinct, ?_, ?_⟩
    · intro e' entry' hub
      obtain ⟨e, before, rfl⟩ := Option.map_eq_some_iff.mp entry'
      exact (sound.consecutive e before hub).mono rfl fun _ _ => id
    · intro e' entry' preparing
      obtain ⟨e, before, rfl⟩ := Option.map_eq_some_iff.mp entry'
      exact sound.preparing e before preparing
  | close => exact ⟨KeySet.distinct_of_pairs nofun nofun, nofun, nofun⟩

theorem Holding.EpochsSound.promoted {e : LinkEntry} (sound : h.EpochsSound) (entry : h.entry = some e)
    (next : h.keys.next.isSome) (hadOutbound owed : Bool) : (h.promoted e hadOutbound owed).EpochsSound where
  distinct := sound.distinct.promote _
  consecutive := by
    rintro _ ⟨⟩ hub
    exact (sound.consecutive e entry hub).promote next _
  preparing := nofun

theorem Holding.EpochsSound.good (sound : h.EpochsSound) : h.good.EpochsSound := by
  cases entry : h.entry with
  | none =>
    have same : h.good = h := by
      unfold Holding.good
      rw [entry, Option.map_none, ← entry]
    rwa [same]
  | some e =>
    have same : h.good = { h with entry := some e.good } := by simp [Holding.good, entry]
    rw [same]
    exact (Move.entry e e.good entry .good).epochsSound sound

/-- An installation at a shop, where no epochs need be consecutive and no OFFER is prepared. -/
theorem Holding.EpochsSound.installed {e : LinkEntry} {x : OfferText} (sound : h.EpochsSound) (entry : h.entry = some e)
    (shop : e.role = .shop) (tick : Nat) : (h.installed e x tick).EpochsSound := by
  have distinct := sound.distinct.install (t := x) (x := newSlot e.policy x.epoch x.key x.salt tick) rfl
  unfold Holding.installed
  dsimp only
  split
  · refine ⟨distinct, ?_, ?_⟩
    · rintro _ ⟨⟩ hub
      cases shop.symm.trans hub
    · rintro _ ⟨⟩ preparing
      exact sound.preparing e entry preparing
  · refine ⟨distinct, ?_, sound.preparing⟩
    intro e' entry' hub
    cases entry.symm.trans entry'
    cases shop.symm.trans hub

/-! ## The step -/

theorem KeySet.distinct_iff : k.Distinct ↔
    ∀ a b x y, k.slot a = some x → k.slot b = some y → x.epoch = y.epoch → a = b := by
  constructor
  · intro h a b x y ha hb same
    exact h a b x.epoch (by simp [KeySet.epochOf, ha]) (by simp [KeySet.epochOf, hb, same])
  · intro h a b n ha hb
    obtain ⟨x, hx, rfl⟩ := Option.map_eq_some_iff.mp ha
    obtain ⟨y, hy, same⟩ := Option.map_eq_some_iff.mp hb
    exact h a b x y hx hy same.symm

theorem KeySet.consecutive_iff : k.Consecutive ↔
    (∀ n c, k.next = some n → k.current = some c → n.epoch = nextEpoch c.epoch) ∧
    (∀ c p, k.current = some c → k.previous = some p → c.epoch = nextEpoch p.epoch) ∧
    (k.current = none → k.previous = none) := by
  constructor
  · rintro ⟨next, current, previous⟩
    refine ⟨fun n c hn hc => ?_, fun c p hc hp => ?_, fun none => ?_⟩
    · exact next _ _ (by simp [KeySet.epochOf, KeySet.slot, hn]) (by simp [KeySet.epochOf, KeySet.slot, hc])
    · exact current _ _ (by simp [KeySet.epochOf, KeySet.slot, hc]) (by simp [KeySet.epochOf, KeySet.slot, hp])
    · simpa [KeySet.epochOf, KeySet.slot] using previous (by simp [KeySet.epochOf, KeySet.slot, none])
  · rintro ⟨next, current, previous⟩
    refine ⟨fun n c hn hc => ?_, fun c p hc hp => ?_, fun none => ?_⟩
    · obtain ⟨x, hx, rfl⟩ := Option.map_eq_some_iff.mp hn
      obtain ⟨y, hy, rfl⟩ := Option.map_eq_some_iff.mp hc
      exact next x y hx hy
    · obtain ⟨x, hx, rfl⟩ := Option.map_eq_some_iff.mp hc
      obtain ⟨y, hy, rfl⟩ := Option.map_eq_some_iff.mp hp
      exact current x y hx hy
    · exact Option.map_eq_none_iff.mpr (previous (Option.map_eq_none_iff.mp none))

/-- A hub's context is never in a state of a shop, so that one in PREPARING is a hub's (R88). -/
theorem State.RenewalSound.preparing {s : State} (sound : s.RenewalSound) {l : Link} {e : LinkEntry}
    (entry : s.entry l = some e) (preparing : (s.renewal l).state = .preparing) : e.role = .hub := by
  obtain ⟨allows, -⟩ := sound.1 l e entry
  cases role : e.role with
  | hub => rfl
  | shop => simp [Role.allows, role, preparing] at allows

/-- A HELD OFFER stands at a shop (R15). -/
theorem State.RenewalSound.offer {s : State} (sound : s.RenewalSound) {l : Link} {e : LinkEntry} {x : OfferText}
    (held : s.Holds l (.offer x)) (entry : s.entry l = some e) : e.role = .shop := by
  obtain ⟨j, hj, rfl, state⟩ := held
  obtain ⟨e', entry', role⟩ := sound.2 j hj _ state
  cases entry.symm.trans entry'
  exact role

theorem State.epochsSound_of_holding {s : State} (sound : ∀ l, (s.holding l).EpochsSound) : s.EpochsSound :=
  fun l => ⟨KeySet.distinct_iff.mp (sound l).distinct,
    fun e entry hub => KeySet.consecutive_iff.mp ((sound l).consecutive e entry hub)⟩

theorem State.EpochsSound.holding {s : State} (sound : s.EpochsSound) (renewals : s.RenewalSound) (l : Link) :
    (s.holding l).EpochsSound where
  distinct := KeySet.distinct_iff.mpr (sound l).1
  consecutive e entry hub := KeySet.consecutive_iff.mpr ((sound l).2 e entry hub)
  preparing _ entry preparing := renewals.preparing entry preparing

/-- Settles O57, by the moves of what a link holds. -/
theorem stepKeepsEpochs : Obligations.StepKeepsEpochs := by
  unfold Obligations.StepKeepsEpochs
  intro s t bindings _ renewals sound next
  refine State.epochsSound_of_holding fun l => ?_
  refine ((step_runs next).course l).keeps Move.epochsSound Move.epochsSound
    (fun sound entry next => sound.promoted entry next _ _) Holding.EpochsSound.good ?_ ?_ (sound.holding renewals l)
  · intro e c items closed
    rw [bindings.closed closed]
    exact ⟨KeySet.distinct_of_pairs nofun nofun, fun _ _ _ => ⟨nofun, nofun, fun _ => rfl⟩, nofun⟩
  · intro e x tick held entry _
    exact (sound.holding renewals l).installed entry (renewals.offer held entry) tick

end Sys2Proof.Machine
end

section
/-! PROOFS. Reset and the restarts (R34, R71, R86, R87, R89, R114, R138, R166, R167), the tick (R167) and the expiries of
the grace, beat, offer, ask and rest timers (R26, R95, R98, R102, R133). -/

namespace Sys2Proof.Machine

open Sys2Proof

/-! ## Reset -/

@[simp] theorem State.reset_entry (l : Link) : State.reset.entry l = none := Table.look_filled _ l

@[simp] theorem State.reset_keySet (l : Link) : State.reset.keySet l = KeySet.empty := Table.look_filled _ l

@[simp] theorem State.reset_renewal (l : Link) : State.reset.renewal l = RenewalContext.initial := Table.look_filled _ l

@[simp] theorem State.reset_faultRecord (l : Link) : State.reset.faultRecord l = FaultRecord.initial :=
  Table.look_filled _ l

@[simp] theorem State.reset_root (e : EntryNo) : State.reset.root e = RootEntry.manufactured := Table.look_filled _ e

@[simp] theorem State.reset_pool : State.reset.pool = [] := rfl

@[simp] theorem State.reset_owed : State.reset.owed = [] := rfl

@[simp] theorem State.reset_nvWrite : State.reset.nvWrite = none := rfl

@[simp] theorem State.reset_nvQueue : State.reset.nvQueue = [] := rfl

/-- Settles O2, by what the tables hold at reset; the first status byte has READY and FRESH and nothing in the output. -/
theorem resetState : Obligations.ResetState := by
  unfold Obligations.ResetState
  have status : State.reset.statusByte = 5#8 := by decide
  refine ⟨rfl, rfl, rfl, rfl, rfl, rfl, rfl, status, rfl, rfl, rfl, rfl, rfl, rfl, rfl, rfl, rfl, rfl, fun l => ?_,
    fun e => ?_⟩
  · rw [State.reset_entry, State.reset_keySet, State.reset_renewal, State.reset_faultRecord]
    exact ⟨rfl, rfl, rfl, rfl⟩
  · rw [State.reset_root]
    exact ⟨rfl, rfl, rfl, rfl, rfl⟩

/-- At reset every link holds what a CLOSED one does. -/
theorem State.reset_holding (l : Link) : State.reset.holding l = .closed := by
  simp [State.holding, Holding.closed]

theorem State.reset_bindingsSound : State.reset.BindingsSound := by
  refine ⟨fun e l => by simp [RootEntry.manufactured], fun l _ => ?_⟩
  exact ⟨State.reset_keySet l, State.reset_renewal l, State.reset_faultRecord l, by simp, by simp⟩

theorem State.reset_noticesSound : State.reset.NoticesSound := by
  have quiet : ∀ l, State.reset.isPending l = false := by
    intro l
    simp [State.isPending, FaultRecord.meets, FaultRecord.initial, FaultSet.meets]
  refine ⟨fun l => ?_, fun l => ?_, by simp, by simp, by simp⟩
  · simp [FaultRecord.Sound, FaultRecord.initial]
  · rw [quiet, State.reset_faultRecord]
    simp [FaultRecord.initial]

theorem State.reset_rootsSound : State.reset.RootsSound := by
  refine ⟨fun e => ?_, by simp, by simp, fun e => ?_, by simp, by simp [State.jobList], by simp [State.firstJob]⟩
  · simp [RootEntry.Sound, RootEntry.manufactured]
  · simp [RootEntry.manufactured]

/-- Settles O3: the stores are empty, every link is CLOSED and every root entry unbound. -/
theorem resetIsSound : Obligations.ResetIsSound := by
  unfold Obligations.ResetIsSound
  have sizes : State.reset.WithinSizes := by
    unfold State.WithinSizes
    decide
  have slots : State.reset.SlotsSound := by
    refine State.slotsSound_iff.mpr ⟨fun l => ?_, ?_⟩
    · rw [State.reset_holding]
      exact ⟨nofun, KeySet.sound_iff.mpr ⟨nofun, nofun, nofun⟩, Nat.zero_le _, nofun⟩
    · rintro l x ⟨j, hj, -⟩
      exact absurd hj List.not_mem_nil
  have supervision : State.reset.SupervisionSound := by
    intro l e entry
    cases (State.reset_entry l).symm.trans entry
  have renewals : State.reset.RenewalSound := by
    refine ⟨fun l e entry => ?_, by simp⟩
    cases (State.reset_entry l).symm.trans entry
  have epochs : State.reset.EpochsSound := by
    refine State.epochsSound_of_holding fun l => ?_
    rw [State.reset_holding]
    exact ⟨KeySet.distinct_of_pairs nofun nofun, nofun, nofun⟩
  exact ⟨sizes, slots, State.reset_bindingsSound, State.reset_noticesSound, supervision, renewals, epochs,
    State.reset_rootsSound⟩

/-! ## Restarts (R86, R87, R166, R167) -/

/-- A restart leaves each stored image old or as the write it cut carried it, and every block at its restart value. -/
theorem State.restart_eq (s : State) : ∃ roots choices, s.ImagesAfterCut roots ∧
    ∀ cause, s.restart cause = s.afterRestart cause roots choices := by
  unfold State.restart State.cutWrite
  split
  · exact ⟨s.roots, s.choices, fun _ => .inl rfl, fun _ => rfl⟩
  · next w write =>
    split
    · exact ⟨s.roots, s.choices + 1, fun _ => .inl rfl, fun _ => rfl⟩
    · refine ⟨(s.landWrite w).roots, s.choices + 1, fun e => ?_, fun _ => rfl⟩
      by_cases same : e = w.entry
      · subst same
        exact .inr ⟨w, write, rfl, State.root_setRoot_same s w.entry _⟩
      · exact .inl (State.root_setRoot_ne s w.entry e _ same)

theorem exec_resetRelease {s : State} (low : s.resetLow = true) (powered : s.powered = true) :
    exec .resetRelease s = .next s.releaseReset := by
  simp [exec, execResetRelease, low, powered]

theorem exec_powerLoss {s : State} (powered : s.powered = true) : exec .powerLoss s = .next s.losePower := by
  simp [exec, execPowerLoss, powered]

/-- Settles O5: each restart is a cut of the write in progress and then the restart values. -/
theorem restartLeaves : Obligations.RestartLeaves := by
  unfold Obligations.RestartLeaves
  refine ⟨fun s operating => ?restart, fun s low powered => ?release, fun s => ?on, fun s powered => ?loss⟩
  case restart =>
    obtain ⟨roots, choices, images, left⟩ := s.restart_eq
    refine ⟨roots, choices, images, ?_⟩
    rw [← left]
    exact act_next (f := (State.restart · .commanded)) operating
  case release =>
    obtain ⟨roots, choices, images, left⟩ := State.restart_eq { s with resetLow := false }
    refine ⟨roots, choices, images, ?_⟩
    rw [exec_resetRelease low powered]
    exact congrArg Host.Outcome.next (left .pin)
  case on =>
    obtain ⟨roots, choices, images, left⟩ := State.restart_eq { s with powered := true, starting := true }
    exact ⟨roots, choices, images, congrArg Host.Outcome.next (left .power)⟩
  case loss =>
    obtain ⟨roots, choices, images, left⟩ := s.restart_eq
    refine ⟨roots, choices, images, ?_⟩
    rw [exec_powerLoss powered]
    exact congrArg (fun u : State => Host.Outcome.next { u with powered := false, starting := false }) (left s.cause)

/-! ## The tick (R167) -/

theorem RenewalContext.claims_iff (c : RenewalContext) : c.claims = true ↔ c.state = .preparing ∨ c.state = .asking ∨
    (c.state = .offered ∨ c.state = .asked) ∧ c.retryOwed = true := by
  unfold RenewalContext.claims
  split <;> simp_all

/-- Settles O46: what a tick writes, table by table. -/
theorem tickCounts : Obligations.TickCounts := by
  unfold Obligations.TickCounts
  refine ⟨rfl, rfl, rfl, fun n more => ?_, fun s operating => ⟨s.tick, act_next operating, ?_, fun below => ?_, fun l => ?_⟩⟩
  · rw [Timer.tick, if_neg (by omega)]
  · have wraps : s.tick.tickCount = if s.tickCount = 4294967295 then 0 else s.tick.tickCount := by
      split
      · next top => simp [State.tick, top]
      · rfl
    rw [← wraps]
    rfl
  · exact Nat.mod_eq_of_lt (by omega)
  · refine ⟨Table.look_each _ _ l, fun closed => ?_, fun e entry => ?_, (s.renewal l).claims, Table.look_each _ _ l,
      RenewalContext.claims_iff _⟩
    · exact (Table.look_each _ _ l).trans (congrArg _ closed)
    · exact (Table.look_each _ _ l).trans (congrArg _ entry)

/-! ## Expiries -/

section Expiries

variable {s : State} {l : Link} {e : LinkEntry}

theorem exec_graceExpiry (h : s.operating = true) : exec (.graceExpiry l) s = .next (s.expireGrace l) :=
  act_next (f := (State.expireGrace · l)) h

theorem exec_beatExpiry (h : s.operating = true) : exec (.beatExpiry l) s = .next (s.expireBeat l).serveFreed :=
  act_next (f := fun s => (s.expireBeat l).serveFreed) h

theorem exec_offerTimerExpiry (h : s.operating = true) :
    exec (.offerTimerExpiry l) s = .next (s.expireOffer l).serveFreed :=
  act_next (f := fun s => (s.expireOffer l).serveFreed) h

theorem exec_askTimerExpiry (h : s.operating = true) : exec (.askTimerExpiry l) s = .next (s.expireAsk l).serveFreed :=
  act_next (f := fun s => (s.expireAsk l).serveFreed) h

theorem exec_restTimerExpiry (h : s.operating = true) : exec (.restTimerExpiry l) s = .next (s.expireRest l).serveFreed :=
  act_next (f := fun s => (s.expireRest l).serveFreed) h

theorem State.stepExpired_of {state : RenewalState} (h : (s.renewal l).state = state)
    (expiring : (s.renewal l).stepTimer = .expiring) : s.stepExpired l state = true := by
  simp [State.stepExpired, h, expiring]

/-- A beat timer that has expired is taken by the engine's answer to its BEAT (R133). -/
theorem State.expireBeat_eq (entry : s.entry l = some e) (expiring : e.beatTimer = .expiring) :
    s.expireBeat l = s.takeBeatExpiry l e := by
  simp [State.expireBeat, entry, expiring]

theorem State.expireOffer_eq (entry : s.entry l = some e) (expired : s.stepExpired l .offered = true) :
    s.expireOffer l = if (s.renewal l).triesUsed < e.policy.offerTries then (s.stopStep l).retryOffer l
      else (s.stopStep l).failRound l := by
  simp [State.expireOffer, entry, expired, State.triesRemain]

theorem State.expireAsk_eq (entry : s.entry l = some e) (expired : s.stepExpired l .asked = true) :
    s.expireAsk l = if (s.renewal l).triesUsed < e.policy.offerTries then (s.stopStep l).retryAsk l
      else (s.stopStep l).failRound l := by
  simp [State.expireAsk, entry, expired, State.triesRemain]

theorem State.startRound_hub (entry : s.entry l = some e) (hub : e.role = .hub) :
    s.startRound l = (s.onRenewal l fun c => { c with
      state := .preparing, triesUsed := 0, retryOwed := false, stepTimer := .stopped, claimDue := false }).requestOffer
        l := by
  simp only [State.startRound, entry, hub]

theorem State.startRound_shop (entry : s.entry l = some e) (shop : e.role = .shop) :
    s.startRound l = (s.onRenewal l fun c => { c with
      state := .asking, triesUsed := 0, retryOwed := false, stepTimer := .stopped, claimDue := false }).requestAsk
        l := by
  simp only [State.startRound, entry, shop]

end Expiries

/-- Settles O47, expiry by expiry. -/
theorem graceBeatAndRoundTimersExpire : Obligations.GraceBeatAndRoundTimersExpire := by
  unfold Obligations.GraceBeatAndRoundTimersExpire
  refine ⟨?grace, ?beat, ?offerAndAsk, ?rest⟩
  case grace =>
    intro s l operating expiring
    rw [exec_graceExpiry operating, State.expireGrace, if_pos expiring]
    rfl
  case beat =>
    intro s l e operating entry expiring load reload
    rw [exec_beatExpiry operating, State.expireBeat_eq entry expiring]
    refine ⟨fun answer => ?_, fun answer => ?_, fun answer => ?_⟩
    · simp only [State.takeBeatExpiry, answer]
    · simp only [State.takeBeatExpiry, answer]
      rfl
    · simp only [State.takeBeatExpiry, answer]
      rfl
  case offerAndAsk =>
    intro s l e operating entry expiring u remain
    refine ⟨fun offered => ?_, fun asked => ?_⟩
    · rw [exec_offerTimerExpiry operating, State.expireOffer_eq entry (State.stepExpired_of offered expiring)]
      exact ⟨fun some => by rw [if_pos some]; rfl, fun none => by rw [if_neg none]; rfl⟩
    · rw [exec_askTimerExpiry operating, State.expireAsk_eq entry (State.stepExpired_of asked expiring)]
      exact ⟨fun some => by rw [if_pos some]; rfl, fun none => by rw [if_neg none]; rfl⟩
  case rest =>
    intro s l e operating entry resting expiring c begun
    have renews : s.restRenews l = true ↔ (s.keySet l).current = none ∨ c.dueMark = true := by
      simp [State.restRenews, c]
    rw [exec_restTimerExpiry operating, State.expireRest, if_pos (State.stepExpired_of resting expiring)]
    refine ⟨fun ⟨holds, unmarked⟩ => ?_, fun again => ⟨fun hub => ?_, fun shop => ?_⟩⟩
    · have idle : ¬ s.restRenews l = true := by simp [renews, holds, unmarked]
      rw [if_neg idle]
      rfl
    · rw [if_pos (renews.mpr again), State.startRound_hub entry hub]
      rfl
    · rw [if_pos (renews.mpr again), State.startRound_shop entry shop]
      rfl

end Sys2Proof.Machine
end

section
/-! PROOFS. Promotion (R24, R25, R103, R105), the installation of a released OFFER (R22, R29, R99), ENCIPHER (R23, R38,
R59) and an accepted traffic record (R32, R42, R47, R62). -/

namespace Sys2Proof.Machine

open Sys2Proof

/-! ## Tables -/

theorem Table.put_put {α : Type} (t : Table α) (i : Fin 64) (a b : α) : (t.put i a).put i b = t.put i b := by
  ext j
  simp only [Table.look_put]
  split <;> rfl

theorem Table.put_look {α : Type} {t : Table α} {i : Fin 64} {a : α} (h : t.look i = a) : t.put i a = t := by
  ext j
  rw [Table.look_put]
  split
  · next same => rw [same, h]
  · rfl

variable {s : State} {l : Link} {e : LinkEntry}

/-! ## The outbound slot (R23) -/

theorem State.outboundRole_eq (entry : s.entry l = some e) : s.outboundRole l = outboundRoleOf e (s.renewal l) := by
  cases role : e.role <;> simp [State.outboundRole, outboundRoleOf, entry, role]

theorem State.outboundSlot_eq (entry : s.entry l = some e) :
    s.outboundSlot l = (s.keySet l).slot (outboundRoleOf e (s.renewal l)) := by
  rw [State.outboundSlot, State.outboundRole_eq entry]

/-! ## Promotion (R24, R25) -/

theorem KeySet.promote_eq (k : KeySet) (ticks : Nat) : k.promote ticks =
    { next := none, current := k.next, previous := k.current
      grace := if k.current = none then .stopped else .running ticks } := by
  unfold KeySet.promote
  cases k.current <;> rfl

theorem LinkEntry.promoted_eq (e : LinkEntry) (outbound : Option KeySlot) : e.promoted outbound.isSome = { e with
    state := if e.state = .keyless then .hunt else e.state
    beatTimer := if outbound ≠ none then e.beatTimer
      else if e.policy.beatTicks = 0 then .stopped else .running e.policy.beatTicks } := by
  unfold LinkEntry.promoted
  cases outbound <;> rfl

/-- Settles O27: the moves of a promotion, table by table, at each role. -/
theorem promotionTaken : Obligations.PromotionTaken := by
  unfold Obligations.PromotionTaken
  intro s l e entry k outbound ended moved
  have slots := KeySet.promote_eq k e.policy.graceTicks
  have supervised := LinkEntry.promoted_eq e outbound
  have same : s.outboundSlot l = outbound := State.outboundSlot_eq entry
  refine ⟨fun shop => ?_, fun hub => ?_⟩
  · simp only [State.promote, shop]
    rw [same, supervised, slots]
    rfl
  · simp only [State.promote, hub]
    rw [same, supervised, slots]
    rfl

/-! ## A released OFFER (R22, R29, R99) -/

section Offer

variable {k : KeySet} {t : OfferText}

/-- The line of the table for an OFFER of CURRENT's epoch and key (R22). -/
theorem KeySet.installation_stale :
    k.installation t = .stale ↔ ∃ x, k.current = some x ∧ x.epoch = t.epoch ∧ x.key = t.key := by
  have stale := KeySet.holds_iff (k := k) (role := .current) (p := fun c => c.epoch == t.epoch && c.key == t.key)
  simp only [KeySet.slot, Bool.and_eq_true, beq_iff_eq] at stale
  rw [← stale, KeySet.installation]
  split_ifs <;> simp_all

variable (new : ¬ ∃ x, k.current = some x ∧ x.epoch = t.epoch ∧ x.key = t.key)

include new

/-- The line for an OFFER of NEXT's epoch, key and salt (R22). -/
theorem KeySet.installation_keep
    (retried : ∃ x, k.next = some x ∧ x.epoch = t.epoch ∧ x.key = t.key ∧ x.salt = t.salt) :
    k.installation t = .keep := by
  have fresh := KeySet.installation_stale.not.mpr new
  have keep : k.holds .next (fun n => n.epoch == t.epoch && n.key == t.key && n.salt == t.salt) = true :=
    KeySet.holds_iff.mpr (by simpa [KeySet.slot, and_assoc] using retried)
  unfold KeySet.installation at fresh ⊢
  split_ifs at fresh ⊢ <;> simp_all

variable (other : ¬ ∃ x, k.next = some x ∧ x.epoch = t.epoch ∧ x.key = t.key ∧ x.salt = t.salt)

include other

/-- Past the first two lines a fresh OFFER, or one of CURRENT's epoch, takes every slot, and any other NEXT's (R22). -/
theorem KeySet.installation_rest : k.installation t =
    if t.fresh = true ∨ ∃ x, k.current = some x ∧ x.epoch = t.epoch then .replaceAll else .replaceNext := by
  have stale : ¬ k.holds .current (fun c => c.epoch == t.epoch && c.key == t.key) = true := by
    rw [KeySet.holds_iff]
    simpa [KeySet.slot] using new
  have keep : ¬ k.holds .next (fun n => n.epoch == t.epoch && n.key == t.key && n.salt == t.salt) = true := by
    rw [KeySet.holds_iff]
    simpa [KeySet.slot, and_assoc] using other
  have current : k.holds .current (fun c => c.epoch == t.epoch) = true ↔ ∃ x, k.current = some x ∧ x.epoch = t.epoch := by
    rw [KeySet.holds_iff]
    simp [KeySet.slot]
  rw [KeySet.installation, if_neg stale, if_neg keep]
  by_cases fresh : t.fresh = true <;> simp [fresh, current]

end Offer

/-- A shop has taken an OFFER: its key set and entry, the round in PROVED, its waiting ASKs withdrawn, and the PROOF in
contest for their slots (R99, R100, R146). -/
def State.offerTaken (s : State) (l : Link) (keys : KeySet) (entry : LinkEntry) (renewalTimer : Timer) : State :=
  { s with
    keys := s.keys.put l keys
    links := s.links.put l (some entry)
    renewals := s.renewals.put l { s.renewal l with
      state := .proved, stepTimer := .stopped, retryOwed := false, claimDue := false
      renewalTimer := renewalTimer }
    pool := s.pool.filter fun j : Job => !(decide (j.link = l) && decide (j.state = JobState.waiting) && j.work.isAsk)
  }.contest l (State.requestProof · l)

/-- A NEXT replaced by an OFFER with PREVIOUS's epoch erases PREVIOUS (R22). -/
theorem KeySet.install_replaceNext (k : KeySet) (n : Nat) (slot : KeySlot)
    [Decidable (∃ x, k.previous = some x ∧ x.epoch = n)] : k.install .replaceNext n slot =
      if ∃ x, k.previous = some x ∧ x.epoch = n
        then { next := some slot, current := k.current, previous := none, grace := .stopped }
        else { k with next := some slot } := by
  have previous : k.holds .previous (fun p => p.epoch == n) = true ↔ ∃ x, k.previous = some x ∧ x.epoch = n := by
    rw [KeySet.holds_iff]
    simp [KeySet.slot]
  simp only [KeySet.install, previous]
  rfl

section Taken

variable {t : OfferText} (entry : s.entry l = some e) (new : (s.keySet l).installation t ≠ .stale)

include entry new

/-- An OFFER that leaves CURRENT at a shop: the beat timer starts where an outbound slot appears (R22, R132). -/
theorem State.validOffer_keeps (shop : e.role = .shop)
    (keeps : (s.keySet l).losesCurrent ((s.keySet l).installation t) = false) :
    s.validOffer l t = s.offerTaken l
      ((s.keySet l).install ((s.keySet l).installation t) t.epoch (newSlot e.policy t.epoch t.key t.salt s.tickCount))
      { e with beatTimer := if (s.renewal l).state = .proved ∨ (s.keySet l).current ≠ none then e.beatTimer
                 else beatLoad e.policy.beatTicks }
      (s.renewal l).renewalTimer := by
  have same : s.links.put l (some e) = s.links := Table.put_look entry
  have outbound := State.outboundSlot_eq entry
  simp only [State.validOffer, entry, new, if_false, State.installOffer, keeps, Bool.false_eq_true, Bool.or_false]
  unfold State.offerTaken
  split
  · next proved =>
    simp only [proved, true_or, if_true, same]
    rfl
  · next unproved =>
    simp only [outboundRoleOf, shop, unproved, and_false, if_false, KeySet.slot] at outbound
    cases current : (s.keySet l).current with
    | none =>
      simp only [outbound, current, unproved, Option.isNone_none, ne_eq, not_true_eq_false, or_self, if_true, if_false,
        State.onEntry, State.setKeys_entry, entry]
      rfl
    | some x =>
      simp only [outbound, current, Option.isNone_some, Bool.false_eq_true, ne_eq, reduceCtorEq, not_false_eq_true,
        or_true, if_true, if_false, same]
      rfl

/-- An OFFER that takes CURRENT away: the link returns to KEYLESS, and the beat timer starts unless the shop has proved
(R22, R29, R128). -/
theorem State.validOffer_loses (loses : (s.keySet l).losesCurrent ((s.keySet l).installation t) = true) :
    s.validOffer l t = s.offerTaken l
      ((s.keySet l).install ((s.keySet l).installation t) t.epoch (newSlot e.policy t.epoch t.key t.salt s.tickCount))
      { e with state := .keyless, goodCount := 0, badCount := 0, silenceTimer := .stopped
               beatTimer := if (s.renewal l).state = .proved then e.beatTimer else beatLoad e.policy.beatTicks }
      .stopped := by
  have look : s.links.look l = some e := entry
  simp only [State.validOffer, entry, new, if_false, State.installOffer, loses, if_true, Bool.or_true]
  unfold State.offerTaken
  split <;>
    simp only [State.loseCurrent, State.onEntry, State.entry, look, Option.map_some, State.onRenewal, State.setRenewal,
      State.setEntry, State.withdraw, State.renewal, State.setKeys, Table.look_put_same, Table.put_put]

end Taken

/-- Settles O28, line by line of the installation table. -/
theorem offerTaken : Obligations.OfferTaken := by
  unfold Obligations.OfferTaken
  intro s l e t entry k c stale retried slot taken started only
  refine ⟨fun old => ?stale, fun shop new => ⟨fun again proved => ?retried, fun other all => ⟨fun x current => ?lost,
    fun current => ?first⟩, fun other plain apart => ?next⟩⟩
  case stale =>
    have line : (s.keySet l).installation t = .stale := KeySet.installation_stale.mpr old
    simp only [State.validOffer, entry, line, if_true]
  case retried =>
    have line : (s.keySet l).installation t = .keep := KeySet.installation_keep new again
    rw [State.validOffer_keeps entry (by rw [line]; nofun) shop (by rw [line]; rfl), line, if_pos (.inl proved)]
    rfl
  case lost =>
    have line : (s.keySet l).installation t = .replaceAll := by
      rw [KeySet.installation_rest new other, if_pos all]
    have holds : (s.keySet l).current = some x := current
    rw [State.validOffer_loses entry (by rw [line]; nofun) (by simp [line, KeySet.losesCurrent, holds]), line]
    rfl
  case first =>
    have line : (s.keySet l).installation t = .replaceAll := by
      rw [KeySet.installation_rest new other, if_pos all]
    have empty : (s.keySet l).current = none := current
    rw [State.validOffer_keeps entry (by rw [line]; nofun) shop (by simp [line, KeySet.losesCurrent, empty]), line]
    simp only [empty, ne_eq, not_true_eq_false, or_false]
    rfl
  case next =>
    have line : (s.keySet l).installation t = .replaceNext := by
      rw [KeySet.installation_rest new other, if_neg]
      rintro (fresh | ⟨x, current, epoch⟩)
      · simp [plain] at fresh
      · exact apart x current epoch
    rw [State.validOffer_keeps entry (by rw [line]; nofun) shop (by rw [line]; rfl), line, KeySet.install_replaceNext]
    rfl

/-! ## ENCIPHER (R23, R38, R59) -/

section Encipher

variable {r : Request} {payload : List Byte} (body : r.body = byteOf l.val :: payload) (short : payload.length ≤ 1024)
  (entry : s.entry l = some e)

include body short entry

theorem takeEncipher_noKey (empty : s.outboundSlot l = none) :
    takeEncipher r s = s.reply r .noKey [byteOf l.val] := by
  simp only [takeEncipher, body, encipherBodyOf, if_pos short, State.attachedLink_byteOf entry, empty]

theorem takeEncipher_slot {k : KeySlot} (slot : s.outboundSlot l = some k) :
    takeEncipher r s =
      if !s.hostRoom then s.reply r .full [byteOf l.val]
      else if k.canProtect payload.length then
        (s.acceptOutbound l k payload.length fun slot sequence => .encipher r.tag slot sequence payload).serveFreed
      else ((s.refuseForWear l k).reply r .spent [byteOf l.val]).serveFreed := by
  simp only [takeEncipher, body, encipherBodyOf, if_pos short, State.attachedLink_byteOf entry, slot]

end Encipher

/-- A running beat timer reloads, and a stopped one stays so (R132). -/
theorem beatReload_eq (timer : Timer) (ticks : Nat) : (if timer.isOn then beatLoad ticks else timer) =
    if timer = .stopped ∨ ticks = 0 then .stopped else .running ticks := by
  cases timer <;> simp [Timer.isOn, beatLoad]

/-- The two tests of an outbound charge (R36, R38). -/
theorem KeySlot.canProtect_iff (k : KeySlot) (n : Nat) : k.canProtect n = true ↔
    k.outSequence < 4294967295 ∧ k.protectedBlocks + ((n + 15) / 16 + 2) ≤ k.wearLimit := by
  rw [KeySlot.canProtect, Bool.and_eq_true, decide_eq_true_eq, decide_eq_true_eq]
  rfl

/-- IDLE and RESTING are the states in which a trigger begins a round (R91, R92). -/
theorem RenewalState.isOpen_iff (c : RenewalState) : c.isOpen = true ↔ c = .idle ∨ c = .resting := by
  cases c <;> simp [RenewalState.isOpen]

/-- An accepted outbound job, table by table, before the soft crossing test (R38, R59, R132). -/
theorem State.acceptOutbound_eq (entry : s.entry l = some e) (k : KeySlot) (n : Nat) (work : SlotBinding → Nat → Work) :
    s.acceptOutbound l k n work =
      let role := outboundRoleOf e (s.renewal l)
      { s with
        keys := s.keys.put l ((s.keySet l).withSlot role (some (k.chargeOut n)))
        pool := s.pool ++ [waitingJob l (work (k.binding role) (k.outSequence + 1))]
        links := s.links.put l (some { e with beatTimer :=
          if e.beatTimer = Timer.stopped ∨ e.policy.beatTicks = 0 then Timer.stopped else .running e.policy.beatTicks })
        renewals := s.renewals.put l { s.renewal l with confirmOwed := false, confirmDue := false }
      }.softCross l role := by
  have look : s.links.look l = some e := entry
  simp only [State.acceptOutbound, State.outboundRole_eq entry, State.outboundAccepted, State.onEntry, State.entry,
    State.setKeys, State.append, look, Option.map_some, beatReload_eq]
  rfl

/-- Settles O29: the checks of ENCIPHER in their order. -/
theorem encipherTaken : Obligations.EncipherTaken := by
  unfold Obligations.EncipherTaken
  intro s r rest l e payload takes kind body short entry role room n
  have next : exec .encipher s = .next (takeEncipher r { s with requests := rest }) :=
    takes_next (f := takeEncipher) takes kind
  have attached : { s with requests := rest }.entry l = some e := entry
  have outbound : { s with requests := rest }.outboundSlot l = (s.keySet l).slot role := State.outboundSlot_eq attached
  refine ⟨fun empty => ?noKey, fun k slot => ?slot⟩
  case noKey =>
    rw [next, takeEncipher_noKey body short attached (outbound.trans empty)]
    rfl
  case slot =>
    intro fits
    rw [next, takeEncipher_slot body short attached (outbound.trans slot)]
    have protects : k.canProtect payload.length = true ↔ fits := KeySlot.canProtect_iff k _
    have hostRoom : { s with requests := rest }.hostRoom = true ↔ room := State.hostRoom_iff _
    refine ⟨fun full => ?full, fun free worn u v hu hv => ?worn, fun free well => ?accepted⟩
    case full =>
      rw [Bool.eq_false_iff.mpr (hostRoom.not.mpr full)]
      rfl
    case worn =>
      have effects : { s with requests := rest }.refuseForWear l k = v := by
        rw [hv, hu, State.refuseForWear]
        simp only [RenewalState.isOpen_iff]
        rfl
      rw [hostRoom.mpr free, Bool.eq_false_iff.mpr (protects.not.mpr worn), effects]
      rfl
    case accepted =>
      rw [hostRoom.mpr free, protects.mpr well, State.acceptOutbound_eq attached]
      rfl

/-! ## A traffic record accepted (R32, R42, R47, R62) -/

theorem Window.judge_accepted {w : Window} {n : Nat}
    (new : w.high < n ∨ w.high ≤ n + 63 ∧ n ∉ w.seen) : w.judge n = .accepted := by
  by_cases above : w.high < n
  · rw [Window.judge, if_pos above]
  · obtain ⟨near, unseen⟩ := new.resolve_left above
    rw [Window.judge, if_neg above, if_neg (by omega), if_neg unseen]

theorem State.judgeTraffic_accepted {slot : SlotBinding} {record : List Byte} {role : SlotRole} {k : KeySlot}
    (v : s.Verifies slot.key (receivedNonce e.role slot.salt (recordSequence record)) record)
    (found : ((s.keySet l).find fun k => k.epoch == recordEpoch record && k.key == slot.key) = some role)
    (here : (s.keySet l).slot role = some k) (judged : k.window.judge (recordSequence record) = .accepted) :
    s.judgeTraffic l e slot record = (s.acceptInbound l e role k record, acceptedOutcome record
      (decipherBytes slot.key (receivedNonce e.role slot.salt (recordSequence record))
        (field record 12 (record.length - 28)))) := by
  unfold State.judgeTraffic
  simp only [nonceOf_inbound, State.openRecord_of_verifies v, found, here, judged]

/-- The reply to an accepted record: DELIVERED with its payload for DATA, else CONSUMED (R47, R175). -/
theorem decipherReply_accepted (tag : Byte) (l : Link) (record payload : List Byte) :
    decipherReply tag l record (acceptedOutcome record payload) = replyOf tag 0xB1
      ([0x00, byteOf l.val, if recordKindByte record = 1 then 0x00 else 0x01, recordKindByte record,
          recordEpochByte record] ++ recordSequenceBytes record ++
        if recordKindByte record = 1 then payload else []) := by
  by_cases data : recordKindByte record = 1
  · have outcome : acceptedOutcome record payload = .delivered payload := if_pos data
    rw [outcome, if_pos data, if_pos data]
    rfl
  · have outcome : acceptedOutcome record payload = .consumed := if_neg data
    rw [outcome, if_neg data, if_neg data, List.append_nil]
    rfl

/-- Settles O36, by the judgement of the record and the acceptance it brings. -/
theorem trafficAccepted : Obligations.TrafficAccepted := by
  unfold Obligations.TrafficAccepted
  intro s lane before j after e tag slot record role k operating h entry work verifies here epoch key only new u v w hu hv
    hw
  have found : ((s.keySet j.link).find fun k => k.epoch == recordEpoch record && k.key == slot.key) = some role :=
    KeySet.find_of_only here (by simp [epoch, key]) fun role' x here' fits =>
      only role' x here' (by simp at fits; exact fits.1)
  have judged := State.judgeTraffic_accepted verifies found here (Window.judge_accepted new)
  have accepted : s.acceptInbound j.link e role k record = w := by
    rw [hw, hv, hu]
    rfl
  rw [exec_trafficDecipherCompletion operating, h.completeTraffic entry work judged, accepted, decipherReply_accepted]
  rfl

end Sys2Proof.Machine
end

section
/-! PROOFS. The four reads (R33, R78, R122, R150): what each puts in its reply, field by field. -/

namespace Sys2Proof.Machine

open Sys2Proof

/-! ## LINK-READ (R122) -/

/-- The step timer's code by the context's state (R170). -/
theorem RenewalContext.stepKind_eq (c : RenewalContext) : c.stepKind = match c.state with
    | .offered => if c.stepTimer = .stopped then 0 else 1
    | .asked => if c.stepTimer = .stopped then 0 else 2
    | .resting => if c.stepTimer = .stopped then 0 else 3
    | .idle => 0
    | .preparing => 0
    | .asking => 0
    | .proved => 0 := by
  unfold RenewalContext.stepKind
  cases c.stepTimer <;> cases c.state <;> rfl

theorem Role.code_eq (role : Role) : role.code = if role = .hub then 0 else 1 := by cases role <;> rfl

theorem Duplicates.code_eq (d : Duplicates) : d.code = if d = .strict then 0 else 1 := by cases d <;> rfl

/-- LINK-READ's reply, spelled out (R175). -/
theorem linkReadFields_eq (l : Link) (e : LinkEntry) (c : RenewalContext) : 0x00 :: linkReadFields l e c =
    [0x00, byteOf l.val, e.state.code, byteOf e.rootEntry.val] ++ beBytes 4 e.shopNumber.toNat ++
      [if e.role = .hub then 0 else 1, byteOf e.goodCount, byteOf e.badCount] ++
      beBytes 2 e.beatTimer.remainder ++ beBytes 2 e.silenceTimer.remainder ++
      beBytes 4 e.policy.lockIn ++ beBytes 4 e.policy.lockOut ++ beBytes 4 e.policy.silenceTicks ++
      beBytes 4 e.policy.beatTicks ++ beBytes 4 e.policy.renewTicks ++ beBytes 4 e.policy.wearLimit ++
      beBytes 4 e.policy.softEighths ++ beBytes 4 e.policy.graceTicks ++ beBytes 4 e.policy.offerTicks ++
      beBytes 4 e.policy.offerTries ++ beBytes 4 e.policy.restTicks ++
      beBytes 4 (if e.policy.duplicates = .strict then 0 else 1) ++ beBytes 4 (if e.policy.rekeyOnLoss then 1 else 0) ++
      [c.state.code, byteOf c.triesUsed, match c.state with
        | .offered => if c.stepTimer = .stopped then 0 else 1
        | .asked => if c.stepTimer = .stopped then 0 else 2
        | .resting => if c.stepTimer = .stopped then 0 else 3
        | .idle => 0
        | .preparing => 0
        | .asking => 0
        | .proved => 0] ++
      beBytes 2 c.stepTimer.remainder ++ beBytes 4 c.renewalTimer.remainder ++
      [byteOf ((if c.dueMark then 1 else 0) + (if c.retryOwed then 2 else 0) + (if c.confirmOwed then 4 else 0)),
       reasonByte c.roundReason, reasonByte c.lastReason, reasonByte c.lastAskReason] := by
  rw [linkReadFields, Policy.values, RenewalContext.stepKind_eq, Role.code_eq, Duplicates.code_eq]
  simp only [List.flatMap_cons, List.flatMap_nil, List.append_assoc, List.append_nil, List.cons_append, List.nil_append]
  rfl

section Requests

variable {s : State} {r : Request} {l : Link} {e : LinkEntry}

theorem takeLinkRead_closed (body : r.body = [byteOf l.val]) (closed : s.entry l = none) :
    takeLinkRead r s = s.reply r .ok [byteOf l.val, 0] := by
  simp only [takeLinkRead, body, linkBodyOf, numberOf_byteOf, closed]

theorem takeLinkRead_attached (body : r.body = [byteOf l.val]) (entry : s.entry l = some e) :
    takeLinkRead r s = s.reply r .ok (linkReadFields l e (s.renewal l)) := by
  simp only [takeLinkRead, body, linkBodyOf, numberOf_byteOf, entry]

/-- A request whose body names an attached link alone (R171). -/
theorem onAttached_eq {f : Request → Link → LinkEntry → State → State} (body : r.body = [byteOf l.val])
    (entry : s.entry l = some e) : onAttached f r s = f r l e s := by
  simp only [onAttached, body, linkBodyOf, State.attachedLink_byteOf entry]

theorem takeRootRead_eq {n : EntryNo} (body : r.body = [byteOf n.val]) :
    takeRootRead r s = s.reply r .ok (s.rootReadFields n) := by
  simp only [takeRootRead, body, entryBodyOf, numberOf_byteOf]

end Requests

/-! ## KEY-READ (R33) -/

/-- The occupied slots counted. -/
theorem KeySet.occupied_length (k : KeySet) : k.occupied.length =
    (if k.next = none then 0 else 1) + (if k.current = none then 0 else 1) + if k.previous = none then 0 else 1 := by
  cases next : k.next <;> cases current : k.current <;> cases previous : k.previous <;>
    simp [KeySet.occupied, KeySet.slot, next, current, previous]

/-- The occupied slots listed in the order NEXT, CURRENT, PREVIOUS. -/
theorem KeySet.occupied_flatMap (k : KeySet) (f : SlotRole × KeySlot → List Byte) : k.occupied.flatMap f =
    (match k.next with | none => [] | some x => f (.next, x)) ++
      (match k.current with | none => [] | some x => f (.current, x)) ++
      match k.previous with | none => [] | some x => f (.previous, x) := by
  cases next : k.next <;> cases current : k.current <;> cases previous : k.previous <;>
    simp [KeySet.occupied, KeySet.slot, next, current, previous]

/-- The bytes of one slot, the grace remainder of a PREVIOUS apart (R175). -/
def slotBytes (now : Nat) (role : Byte) (k : KeySlot) : List Byte :=
  [role, byteOf k.epoch] ++ beBytes 4 k.outSequence ++ beBytes 4 k.protectedBlocks ++ beBytes 4 k.openedBlocks ++
    beBytes 4 k.wearLimit ++ beBytes 4 k.softThreshold ++ [if k.softCrossed then 1 else 0] ++
    beBytes 4 k.window.high ++ beBytes 4 ((now + 4294967296 - k.creationTick) % 4294967296)

theorem slotFields_eq (now : Nat) (role : SlotRole) (k : KeySlot) (grace : Timer) : slotFields now role k grace =
    slotBytes now role.code k ++ if role = .previous then beBytes 2 grace.remainder else [] := by
  cases role <;> rfl

theorem keyReadFields_eq (now : Nat) (l : Link) (k : KeySet) : 0x00 :: keyReadFields now l k =
    [0x00, byteOf l.val, byteOf ((if k.next = none then 0 else 1) + (if k.current = none then 0 else 1) +
        (if k.previous = none then 0 else 1))] ++
      (match k.next with | none => [] | some x => slotBytes now 0 x) ++
      (match k.current with | none => [] | some x => slotBytes now 1 x) ++
      (match k.previous with | none => [] | some x => slotBytes now 2 x ++ beBytes 2 k.grace.remainder) := by
  rw [keyReadFields, KeySet.occupied_length, KeySet.occupied_flatMap]
  simp only [slotFields_eq, reduceCtorEq, if_true, if_false, List.append_nil, List.append_assoc,
    List.cons_append, List.nil_append]
  rfl

/-! ## ROOT-READ (R78) -/

/-- A bit of a presence byte, read off the field it tells of. -/
theorem ite_isSome {α : Type} (o : Option α) (n : Nat) : (if o.isSome = true then n else 0) = if o = none then 0 else n := by
  cases o <;> rfl

theorem bitsByte_eq (a b c : Bool) : bitsByte a b c =
    byteOf ((if a = true then 1 else 0) + (if b = true then 2 else 0) + if c = true then 4 else 0) := rfl

theorem State.rootReadFields_eq (s : State) (n : EntryNo) : 0x00 :: s.rootReadFields n =
    let x := s.root n
    [0x00, byteOf n.val, byteOf ((if x.contents = none then 0 else 1) + (if n ∈ s.nvQueue then 2 else 0))] ++
      (match x.contents with
       | none => []
       | some c => beBytes 4 c.shopNumber.toNat ++ [if c.role = .hub then 0 else 1]) ++
      beBytes 4 x.stored.ceiling ++ beBytes 4 x.stored.inCounter ++ beBytes 4 x.ceiling ++ beBytes 4 x.outCounter ++
      beBytes 4 x.inCounter ++ [match x.bound with | none => 0xFF | some l => byteOf l.val] := by
  simp only [State.rootReadFields, State.writePending, bitsByte_eq, ite_isSome, Role.code_eq, decide_eq_true_eq,
    Bool.false_eq_true, if_false, Nat.add_zero]
  cases (s.root n).bound <;> rfl

/-! ## FAULT-READ (R150) -/

theorem captureFields_eq (c : Option Capture) : captureFields c = match c with
    | none => [0x00]
    | some c =>
      [byteOf (1 + (if c.epoch = none then 0 else 2) + (if c.sequence = none then 0 else 4)), byteOf c.kind.code] ++
        beBytes 4 c.tick ++ (match c.epoch with | none => [] | some n => beBytes 1 n) ++
        (match c.sequence with | none => [] | some n => beBytes 4 n) := by
  cases c with
  | none => rfl
  | some c =>
    simp only [captureFields, bitsByte_eq, ite_isSome, if_true]
    cases c.epoch <;> cases c.sequence <;> rfl

theorem State.faultReadFields_eq (s : State) (l : Link) : 0x00 :: s.faultReadFields l =
    let x := s.faultRecord l
    [0x00, byteOf l.val] ++ beBytes 2 x.flags.toNat ++ beBytes 2 x.enabled.toNat ++ beBytes 2 x.stamp ++
      (match x.capture with
       | none => [0x00]
       | some c =>
         [byteOf (1 + (if c.epoch = none then 0 else 2) + (if c.sequence = none then 0 else 4)), byteOf c.kind.code] ++
           beBytes 4 c.tick ++ (match c.epoch with | none => [] | some n => beBytes 1 n) ++
           (match c.sequence with | none => [] | some n => beBytes 4 n)) ++
      byteOf x.counterA.source.code :: beBytes 2 x.counterA.value ++
      byteOf x.counterB.source.code :: beBytes 2 x.counterB.value ++
      [byteOf ((if s.isPending l then 1 else 0) + (if x.noticeSent then 2 else 0) + (if l ∈ s.owed then 4 else 0))] := by
  simp only [State.faultReadFields, captureFields_eq, bitsByte_eq, decide_eq_true_eq]
  rfl

/-! ## The reads -/

/-- The reply to a read: its bytes from the status on, and nothing else moved. -/
def State.readAnswer (s : State) (r : Request) (rest : List Request) (fields : List Byte) :
    Host.Outcome State Fault Refusal :=
  .next (s.answered rest (answerOf r fields))

theorem State.reply_ok (s : State) (r : Request) (rest : List Request) (fields : List Byte) :
    .next (({ s with requests := rest } : State).reply r .ok fields) = s.readAnswer r rest (0x00 :: fields) := rfl

/-- Settles O18: each reply is the fields of what stands. -/
theorem readsAnswered : Obligations.ReadsAnswered := by
  unfold Obligations.ReadsAnswered
  refine ⟨?closed, ?link, ?key, ?root, ?fault⟩
  case closed =>
    intro s r rest l takes kind body closed
    refine (takes_next (f := takeLinkRead) takes kind).trans ?_
    rw [takeLinkRead_closed (s := { s with requests := rest }) body closed]
    rfl
  case link =>
    intro s r rest l e takes kind body entry p c stepKind
    refine (takes_next (f := takeLinkRead) takes kind).trans ?_
    rw [takeLinkRead_attached (s := { s with requests := rest }) body entry, s.reply_ok]
    exact congrArg (s.readAnswer r rest) (linkReadFields_eq l e (s.renewal l))
  case key =>
    intro s r rest l takes kind body attached slot k
    obtain ⟨e, entry⟩ := Option.ne_none_iff_exists'.mp attached
    refine (takes_next (f := takeKeyRead) takes kind).trans ?_
    rw [takeKeyRead, onAttached_eq (s := { s with requests := rest }) body entry, s.reply_ok]
    exact congrArg (s.readAnswer r rest) (keyReadFields_eq s.tickCount l (s.keySet l))
  case root =>
    intro s r rest n takes kind body x
    refine (takes_next (f := takeRootRead) takes kind).trans ?_
    rw [takeRootRead_eq (s := { s with requests := rest }) body, s.reply_ok]
    exact congrArg (s.readAnswer r rest) (s.rootReadFields_eq n)
  case fault =>
    intro s r rest l takes kind body attached x
    obtain ⟨e, entry⟩ := Option.ne_none_iff_exists'.mp attached
    refine (takes_next (f := takeFaultRead) takes kind).trans ?_
    rw [takeFaultRead, onAttached_eq (s := { s with requests := rest }) body entry, s.reply_ok]
    exact congrArg (s.readAnswer r rest) (s.faultReadFields_eq l)

end Sys2Proof.Machine
end

section
/-! PROOFS. Chapter 3: blocks and the threshold (R36, R37), the window (R46, R47, R50), the soft crossing test (R43, R44)
and a request for a BEAT or PROOF (R40, R65). -/

namespace Sys2Proof.Machine

open Sys2Proof

/-! ## Blocks and the threshold (R36, R37) -/

/-- A payload that ends in its block q + 1 takes q + 3 blocks (R36). -/
theorem blocks_eq {n q : Nat} (above : 16 * q < n) (within : n ≤ 16 * (q + 1)) : blocks n = q + 3 := by
  unfold blocks
  omega

/-- The threshold lies between an eighth of the least wear limit and seven eighths of its own (R37). -/
theorem softThreshold_bounds {w e : Nat} (wear : 4096 ≤ w) (low : 1 ≤ e) (high : e ≤ 7) :
    512 ≤ softThreshold w e ∧ softThreshold w e + w / 8 ≤ w := by
  have least : w * 1 ≤ w * e := Nat.mul_le_mul_left w low
  have most : w * e ≤ w * 7 := Nat.mul_le_mul_left w high
  unfold softThreshold
  omega

/-! ## The window (R46, R47, R50) -/

theorem Window.judge_accepted_iff {w : Window} {n : Nat} :
    w.judge n = .accepted ↔ w.high < n ∨ w.high ≤ n + 63 ∧ n ∉ w.seen := by
  refine ⟨fun accepted => ?_, Window.judge_accepted⟩
  by_contra old
  obtain ⟨below, blocked⟩ := not_or.mp old
  rcases Nat.lt_or_ge (n + 63) w.high with late | near
  · simp [Window.judge_late late] at accepted
  · have seen : n ∈ w.seen := not_not.mp fun unseen => blocked ⟨near, unseen⟩
    simp [Window.judge_duplicate (Nat.le_of_not_lt below) near seen] at accepted

theorem Window.judge_late_iff {w : Window} {n : Nat} : w.judge n = .late ↔ n + 63 < w.high := by
  refine ⟨fun late => ?_, Window.judge_late⟩
  unfold Window.judge at late
  split_ifs at late with above below
  exact below

theorem Window.accept_high (w : Window) (n : Nat) : (w.accept n).high = max w.high n := by
  unfold Window.accept
  split <;> dsimp only <;> omega

/-- After an acceptance the window holds the new sequence and those old ones that still lie in it (R47). -/
theorem Window.mem_accept_seen {w : Window} (h : w.Sound) {n x : Nat} :
    x ∈ (w.accept n).seen ↔ x = n ∨ x ∈ w.seen ∧ max w.high n ≤ x + 63 := by
  obtain ⟨-, range, -⟩ := h
  unfold Window.accept
  split
  · next above => simp [max_eq_right above.le, or_comm]
  · next below =>
    rw [mem_insertRising, max_eq_left (Nat.le_of_not_lt below)]
    have near : x ∈ w.seen → w.high ≤ x + 63 := fun seen => (range x seen).2
    tauto

/-- A sequence the window has accepted is late or a duplicate for every later window, one whose H is no lower and which
kept the accepted sequences that still lie in it (R50). -/
theorem Window.judge_ne_accepted_of_accept {w w' : Window} {n : Nat} (h : w.Sound)
    (later : (w.accept n).high ≤ w'.high)
    (kept : ∀ x, x ∈ (w.accept n).seen → x ≤ w'.high → w'.high ≤ x + 63 → x ∈ w'.seen) : w'.judge n ≠ .accepted := by
  have inside : n ≤ w'.high := (le_max_right w.high n).trans (w.accept_high n ▸ later)
  rw [Ne, Window.judge_accepted_iff]
  rintro (above | ⟨near, unseen⟩)
  · omega
  · exact unseen (kept n ((Window.mem_accept_seen h).mpr (.inl rfl)) inside near)

/-- Settles O50, from the arithmetic of blocks, of the threshold and of the window. -/
theorem wearAndWindow : Obligations.WearAndWindow := by
  unfold Obligations.WearAndWindow
  refine ⟨fun n q => blocks_eq, rfl, fun w e => softThreshold_bounds, fun w n sound _ =>
    ⟨Window.judge_accepted_iff, Window.judge_late_iff, fun accepted => ?_⟩⟩
  exact ⟨Window.accept_sound sound accepted, w.accept_high n, fun x => Window.mem_accept_seen sound,
    fun w' _ later kept => Window.judge_ne_accepted_of_accept sound later kept⟩

variable {s : State} {l : Link} {e : LinkEntry} {k : KeySlot}

/-! ## The soft crossing test (R43, R44) -/

theorem KeySlot.crosses_iff : k.crosses = true ↔ k.softCrossed = false ∧
    (k.softThreshold ≤ k.protectedBlocks + k.openedBlocks ∨ 2147483648 ≤ k.outSequence) := by
  simp [KeySlot.crosses]

/-- The slots the test evaluates: the CURRENT, and a shop's NEXT in PROVED, its outbound slot then (R43). -/
theorem outboundRoleOf_or_current {c : RenewalContext} {role : SlotRole} :
    role = outboundRoleOf e c ∨ role = .current ↔
      role = .current ∨ role = .next ∧ e.role = .shop ∧ c.state = .proved := by
  unfold outboundRoleOf
  split_ifs with proved
  · simp [proved, or_comm]
  · simp [proved]

theorem State.softCross_slot {role : SlotRole} (slot : (s.keySet l).slot role = some k) :
    s.softCross l role =
      if (role = s.outboundRole l ∨ role = .current) ∧ k.crosses = true then
        (s.setKeys l ((s.keySet l).withSlot role (some { k with softCrossed := true }))).trigger l .wear
      else s := by
  simp only [State.softCross, slot, Bool.and_eq_true, Bool.or_eq_true, decide_eq_true_eq]

/-- Settles O30: the evaluated slots and the test on them are the branch of the model's crossing. -/
theorem softCrossingTested : Obligations.SoftCrossingTested := by
  unfold Obligations.SoftCrossingTested
  intro s l e role k entry slot evaluated met
  have tested : (role = s.outboundRole l ∨ role = .current) ∧ k.crosses = true ↔ evaluated ∧ met := by
    rw [State.outboundRole_eq entry, outboundRoleOf_or_current, KeySlot.crosses_iff]
  rw [State.softCross_slot slot]
  refine ⟨fun evaluates meets => ?_, fun fails => ?_⟩
  · rw [if_pos (tested.mpr ⟨evaluates, meets⟩)]
    rfl
  · rw [if_neg (tested.not.mpr fails)]

/-! ## A request for a BEAT or PROOF (R40, R65) -/

theorem State.controlAnswer_full (full : s.controlRoom = false) : s.controlAnswer l = .noRoom := by
  simp [State.controlAnswer, full]

theorem State.controlAnswer_noKey (free : s.controlRoom = true) (empty : s.outboundSlot l = none) :
    s.controlAnswer l = .noKey := by
  simp only [State.controlAnswer, free, if_true, empty]

theorem State.controlAnswer_slot (free : s.controlRoom = true) (slot : s.outboundSlot l = some k) :
    s.controlAnswer l = if k.canProtect 0 then .accepted else .spent := by
  simp only [State.controlAnswer, free, if_true, slot]

/-- A refusal for room or for no key has no effect (R65). -/
theorem State.requestTraffic_unchanged {work : SlotBinding → Nat → Work}
    (refused : s.controlAnswer l = .noRoom ∨ s.controlAnswer l = .noKey) : s.requestTraffic l work = s := by
  unfold State.requestTraffic
  cases s.outboundSlot l with
  | none => rfl
  | some k => rcases refused with answer | answer <;> simp only [answer]

theorem State.requestTraffic_spent {work : SlotBinding → Nat → Work} (slot : s.outboundSlot l = some k)
    (answer : s.controlAnswer l = .spent) : s.requestTraffic l work = s.refuseForWear l k := by
  simp only [State.requestTraffic, slot, answer]

theorem State.requestTraffic_accepted {work : SlotBinding → Nat → Work} (slot : s.outboundSlot l = some k)
    (answer : s.controlAnswer l = .accepted) : s.requestTraffic l work = s.acceptOutbound l k 0 work := by
  simp only [State.requestTraffic, slot, answer]

/-- The effects of a refusal for wear, with the states of its trigger named (R40). -/
theorem State.refuseForWear_eq : s.refuseForWear l k =
    if (s.renewal l).state = .idle ∨ (s.renewal l).state = .resting
      then (s.occurrence l .spent (some k.epoch) none).trigger l .spent
      else s.occurrence l .spent (some k.epoch) none := by
  simp only [State.refuseForWear, RenewalState.isOpen_iff]

/-- Settles O31: the answers of the engine in their order, and what each leaves. -/
theorem trafficRequested : Obligations.TrafficRequested := by
  unfold Obligations.TrafficRequested
  intro s l e work entry role room
  have hasRoom : s.controlRoom = true ↔ room := s.controlRoom_iff
  have outbound : s.outboundSlot l = (s.keySet l).slot role := State.outboundSlot_eq entry
  refine ⟨fun full => ?full, fun free empty => ?noKey, fun k free here => ?slot⟩
  case full =>
    have answer : s.controlAnswer l = .noRoom := State.controlAnswer_full (State.controlRoom_of_not full)
    exact ⟨answer, State.requestTraffic_unchanged (.inl answer)⟩
  case noKey =>
    have answer : s.controlAnswer l = .noKey :=
      State.controlAnswer_noKey (hasRoom.mpr free) (outbound.trans empty)
    exact ⟨answer, State.requestTraffic_unchanged (.inr answer)⟩
  case slot =>
    intro fits
    have slot : s.outboundSlot l = some k := outbound.trans here
    have protects : k.canProtect 0 = true ↔ fits := k.canProtect_iff 0
    have judged := State.controlAnswer_slot (hasRoom.mpr free) slot
    refine ⟨fun worn => ?worn, fun well => ?accepted⟩
    case worn =>
      have answer : s.controlAnswer l = .spent := judged.trans (if_neg (protects.not.mpr worn))
      refine ⟨answer, fun u reported => ?_⟩
      rw [State.requestTraffic_spent slot answer, State.refuseForWear_eq, reported]
    case accepted =>
      have answer : s.controlAnswer l = .accepted := judged.trans (if_pos (protects.mpr well))
      refine ⟨answer, ?_⟩
      rw [State.requestTraffic_accepted slot answer, State.acceptOutbound_eq entry]
      rfl

end Sys2Proof.Machine
end

section
/-! PROOFS. What one step can do to the stores of the part: the request queue, the output, the job pool, the log, the
counts, the root entries and the NV writes. Every shared operation is a run of a few sorts of changes of the stores
(`State.Shifts`); a command adds those by which a request is taken and answered, a job leaves or changes its state, and
the root store moves (`State.Deals`, `step_goes`). An invariant of the stores is then kept by every step once it is
kept by these changes. -/

namespace Sys2Proof.Machine

open Sys2Proof

/-! ## The stores and their changes -/

/-- The stores of the part, with the root entry each link is attached to. -/
structure Stores where
  requests : List Request
  output : List OutFrame
  rootReplies : List RootReply
  pool : List Job
  log : List LogEntry
  lost : Nat
  frameErrors : Nat
  overruns : Nat
  tickCount : Nat
  roots : Table RootEntry
  nvQueue : List EntryNo
  nvWrite : Option NvWrite
  attached : Link → Option EntryNo

/-- The stores of a state. -/
def State.stores (s : State) : Stores :=
  { requests := s.requests, output := s.output, rootReplies := s.rootReplies, pool := s.pool, log := s.log,
    lost := s.lost, frameErrors := s.frameErrors, overruns := s.overruns, tickCount := s.tickCount,
    roots := s.roots, nvQueue := s.nvQueue, nvWrite := s.nvWrite
    attached := fun l => (s.entry l).map LinkEntry.rootEntry }

/-- Unsolicited slots filled, or reserved by a control job (R162). -/
def Stores.unsolicited (x : Stores) : Nat := x.output.countP OutFrame.isUnsolicited + x.pool.countP Job.isControl

/-- Request-owned slots filled, or reserved by what has not been answered (R162). -/
def Stores.requestOwned (x : Stores) : Nat :=
  x.output.countP OutFrame.isReply + x.requests.length + x.pool.countP Job.isHost + x.rootReplies.length

theorem State.stores_unsolicited (s : State) : s.stores.unsolicited = s.unsolicitedInUse := rfl

theorem State.stores_requestOwned (s : State) : s.stores.requestOwned = s.requestOwnedInUse := rfl

/-- A root entry. -/
abbrev Stores.root (x : Stores) (e : EntryNo) : RootEntry := x.roots.look e

/-- A root entry replaced. -/
abbrev Stores.setRoot (x : Stores) (e : EntryNo) (r : RootEntry) : Stores := { x with roots := x.roots.put e r }

/-- One change of the stores that a shared operation can make: a NOTICE in a free slot, a log entry or a lost one, a
control job accepted or a waiting one dropped, the claim of a waiting first job moved, a live ceiling raised, a write
requested (R65, R67, R79, R84, R145, R155). -/
inductive Shift (x : Stores) : Stores → Prop
  | notice (f) : f.share = .unsolicited → x.unsolicited < 16 → Shift x { x with output := x.output ++ [f] }
  | logs (e) : x.log.length < 32 → Shift x { x with log := x.log ++ [e] }
  | loses : Shift x { x with lost := min (x.lost + 1) maxHalf }
  | accepts (l work) : work.isHost = false → x.pool.length < 32 → x.unsolicited < 16 →
      (∀ e c, work.claim = some (e, c) → c = .unasked ∧ x.attached l = some e) →
      Shift x { x with pool := x.pool ++ [waitingJob l work] }
  | drops (before j after) : x.pool = before ++ j :: after → j.state = .waiting → j.isControl = true →
      Shift x { x with pool := before ++ after }
  | claims (before j after e c d) : x.pool = before ++ j :: after → (∀ i ∈ before, i.link ≠ j.link) →
      j.state = .waiting → j.work.claim = some (e, c) →
      (d = .ready → ∃ n, (n = e ∨ (x.root n).bound = some j.link) ∧
        (x.root n).outCounter + 1 ≤ (x.root n).stored.ceiling) →
      Shift x { x with pool := before ++ j.withClaim d :: after }
  | raises (e) : (x.root e).ceiling < (x.root e).outCounter + 1 →
      Shift x (x.setRoot e { x.root e with ceiling := min ((x.root e).stored.ceiling + 16) maxWord })
  | again (w) : x.nvWrite = some w → Shift x { x with nvWrite := some { w with again := true } }
  | joins (e) : e ∉ x.nvQueue → Shift x { x with nvQueue := x.nvQueue ++ [e] }

/-- From `s` to `t` the stores have moved as shared operations move them. -/
def State.Shifts (s t : State) : Prop := Relation.ReflTransGen Shift s.stores t.stores

variable {s t u : State} {l : Link}

/-- What is no part of the stores has moved. -/
theorem State.Shifts.of_eq (h : t.stores = s.stores) : s.Shifts t := by
  rw [State.Shifts, h]

theorem State.Shifts.refl (s : State) : s.Shifts s := .of_eq rfl

theorem State.Shifts.single (h : Shift s.stores t.stores) : s.Shifts t := Relation.ReflTransGen.single h

theorem State.Shifts.trans (h : s.Shifts t) (k : t.Shifts u) : s.Shifts u := Relation.ReflTransGen.trans h k

/-- What is no part of the stores has moved before. -/
theorem State.Shifts.since (h : u.Shifts t) (same : u.stores = s.stores) : s.Shifts t := .trans (.of_eq same) h

/-- What is no part of the stores has moved after. -/
theorem State.Shifts.upTo (h : s.Shifts t) (same : u.stores = t.stores) : s.Shifts u := .trans h (.of_eq same)

/-! ## Jobs that are not waiting -/

theorem find_dropped {α : Type} {p : α → Bool} {before after : List α} {x y : α}
    (found : (before ++ x :: after).find? p = some y) (other : y ≠ x) : (before ++ after).find? p = some y := by
  rw [List.find?_append] at found ⊢
  cases head : before.find? p with
  | some z => simpa [head] using found
  | none =>
    cases hx : p x with
    | true => exact absurd (by simpa [head, hx, eq_comm] using found) other
    | false => simpa [head, hx] using found

theorem find_changed {α : Type} {p : α → Bool} {before after : List α} {x x' y : α} (same : p x' = p x)
    (found : (before ++ x :: after).find? p = some y) (other : y ≠ x) :
    (before ++ x' :: after).find? p = some y := by
  rw [List.find?_append] at found ⊢
  cases head : before.find? p with
  | some z => simpa [head] using found
  | none =>
    cases hx : p x with
    | true => exact absurd (by simpa [head, hx, eq_comm] using found) other
    | false => simpa [head, hx, same] using found

/-- The job found first for a property stays the one found while it is not waiting: shared operations change and drop
waiting jobs alone, and add at the tail. -/
theorem Shift.find {x y : Stores} (h : Shift x y) {p : Job → Bool} (claim : ∀ j c, p (j.withClaim c) = p j) {j : Job}
    (found : x.pool.find? p = some j) (busy : j.state ≠ .waiting) : y.pool.find? p = some j := by
  cases h with
  | accepts l work _ _ _ _ => simp [List.find?_append, found]
  | drops before i after pool waiting _ =>
    exact find_dropped (pool ▸ found) fun same => busy (same ▸ waiting)
  | claims before i after e c d pool _ waiting _ _ =>
    exact find_changed (claim i d) (pool ▸ found) fun same => busy (same ▸ waiting)
  | notice | logs | loses | raises | again | joins => exact found

theorem State.Shifts.find (h : s.Shifts t) {p : Job → Bool} (claim : ∀ j c, p (j.withClaim c) = p j) {j : Job}
    (found : s.pool.find? p = some j) (busy : j.state ≠ .waiting) : t.pool.find? p = some j := by
  have run : ∀ y, Relation.ReflTransGen Shift s.stores y → y.pool.find? p = some j := by
    intro y h
    induction h with
    | refl => exact found
    | tail _ last ih => exact last.find claim ih busy
  exact run _ h

/-- The job of a lane stays in it (R57). -/
theorem State.Shifts.laneJob (h : s.Shifts t) {lane : Lane} {j : Job} (found : s.laneJob lane = some j) :
    t.laneJob lane = some j := by
  obtain ⟨_, _, -, state, -⟩ := State.inLane_of_laneJob found
  exact h.find (fun _ _ => rfl) found (by simp [state])

/-- A first job that is not waiting stays first. -/
theorem State.Shifts.firstJob (h : s.Shifts t) {j : Job} (found : s.firstJob l = some j) (busy : j.state ≠ .waiting) :
    t.firstJob l = some j :=
  h.find (fun _ _ => rfl) found busy

/-! ## Notices and occurrences -/

theorem State.onFaults_stores (s : State) (l : Link) (f : FaultRecord → FaultRecord) :
    (s.onFaults l f).stores = s.stores := rfl

theorem State.placeNotice_shifts (l : Link) (free : s.unsolicitedFree = true) : s.Shifts (s.placeNotice l) :=
  .single (.notice (s.noticeFrame l) rfl (s.unsolicitedFree_iff.mp free))

theorem State.becomePending_shifts (s : State) (l : Link) : s.Shifts (s.becomePending l) := by
  unfold State.becomePending
  split
  · exact .refl _
  · split
    · next free => exact State.placeNotice_shifts l (Bool.and_eq_true_iff.mp free).1
    · exact .of_eq rfl

theorem State.judgePending_shifts (s : State) (l : Link) (before : Bool) : s.Shifts (s.judgePending l before) := by
  unfold State.judgePending
  split
  · exact s.becomePending_shifts l
  · exact .of_eq rfl
  · exact .refl _
  · exact .refl _

theorem serveOwedList_shifts (ls : List Link) (s : State) : s.Shifts (serveOwedList ls s) := by
  induction ls generalizing s with
  | nil => exact .refl _
  | cons l rest ih =>
    unfold serveOwedList
    split
    · next free => exact ((State.placeNotice_shifts (s := { s with owed := rest }) l free).since rfl).trans (ih _)
    · exact .refl _

theorem State.serveOwed_shifts (s : State) : s.Shifts s.serveOwed := serveOwedList_shifts s.owed s

theorem State.offerLog_shifts (s : State) (x : LogEntry) : s.Shifts (s.offerLog x) := by
  unfold State.offerLog
  split
  · next room => exact .single (.logs x room)
  · exact .single .loses

theorem State.occurrence_shifts (s : State) (l : Link) (k : FaultKind) (epoch sequence : Option Nat) :
    s.Shifts (s.occurrence l k epoch sequence) := by
  unfold State.occurrence
  split
  · exact .of_eq rfl
  · refine .trans ?_ (State.judgePending_shifts _ l _)
    refine .since (State.offerLog_shifts _ _) ?_
    rw [State.onFaults_stores, State.onFaults_stores]

theorem State.serveReleased_shifts (s : State) : s.Shifts s.serveReleased := by
  unfold State.serveReleased
  split
  · exact .refl _
  · split
    · exact s.serveOwed_shifts
    · split
      · exact s.chosen.serveOwed_shifts.since rfl
      · exact .of_eq rfl

/-! ## Root store -/

theorem State.joinNvQueue_shifts (s : State) (e : EntryNo) : s.Shifts (s.joinNvQueue e) := by
  unfold State.joinNvQueue
  split
  · exact .refl _
  · next new => exact .single (.joins e new)

theorem State.requestWrite_shifts (s : State) (e : EntryNo) : s.Shifts (s.requestWrite e) := by
  unfold State.requestWrite
  split
  · exact s.joinNvQueue_shifts e
  · next w write =>
    split
    · exact .single (.again w write)
    · exact s.joinNvQueue_shifts e

theorem State.raiseCeiling_shifts (s : State) (e : EntryNo) : s.Shifts (s.raiseCeiling e) := by
  unfold State.raiseCeiling
  split
  · next low =>
    have raised : s.Shifts (s.setRoot e { s.root e with ceiling := min ((s.root e).stored.ceiling + 16) maxWord }) :=
      .single (.raises e low)
    exact raised.trans (State.requestWrite_shifts _ e)
  · exact .refl _

/-! ## Jobs -/

/-- The claim of a waiting first job has moved (R56). -/
theorem State.First.withClaim_shifts {before after : List Job} {j : Job} (first : s.First l before j after)
    (waiting : j.state = .waiting) {e : EntryNo} {c d : CounterClaim} (claim : j.work.claim = some (e, c))
    (ready : d = .ready → ∃ n, (n = e ∨ (s.root n).bound = some l) ∧
      (s.root n).outCounter + 1 ≤ (s.root n).stored.ceiling) :
    s.Shifts (s.onFirst l (Job.withClaim d)) := by
  rw [first.onFirst]
  obtain ⟨pool, rfl, others⟩ := first
  exact .single (.claims before j after e c d pool others waiting claim ready)

/-- Waiting control jobs withdrawn, wherever they stand behind the first ones. -/
theorem Stores.filter_shifts {keep : Job → Bool} (jobs : List Job)
    (leaving : ∀ j ∈ jobs, keep j = false → j.state = .waiting ∧ j.isControl = true) (x : Stores) (before : List Job) :
    Relation.ReflTransGen Shift { x with pool := before ++ jobs } { x with pool := before ++ jobs.filter keep } := by
  induction jobs generalizing before with
  | nil => exact .refl
  | cons j rest ih =>
    have rest' := ih fun i hi => leaving i (List.mem_cons_of_mem j hi)
    cases kept : keep j with
    | true => simpa [kept] using rest' (before ++ [j])
    | false =>
      obtain ⟨waiting, control⟩ := leaving j List.mem_cons_self kept
      have dropped := Shift.drops (x := { x with pool := before ++ j :: rest }) before j rest rfl waiting control
      simpa [kept] using Relation.ReflTransGen.head dropped (rest' before)

theorem State.withdraw_shifts (s : State) (l : Link) {sort : Work → Bool}
    (control : ∀ w : Work, sort w = true → w.isHost = false) : s.Shifts (s.withdraw l sort) := by
  refine Stores.filter_shifts s.pool (fun j _ leaves => ?_) s.stores []
  simp only [Bool.not_eq_false', Bool.and_eq_true, decide_eq_true_eq] at leaves
  obtain ⟨⟨-, waiting⟩, sorted⟩ := leaves
  exact ⟨waiting, by simp [Job.isControl, control j.work sorted]⟩

theorem Work.isHost_of_isOffer {w : Work} (h : w.isOffer = true) : w.isHost = false := by
  cases w <;> simp_all [Work.isOffer, Work.isHost]

theorem Work.isHost_of_isAsk {w : Work} (h : w.isAsk = true) : w.isHost = false := by
  cases w <;> simp_all [Work.isAsk, Work.isHost]

/-- A job with a claim is an OFFER or ASK, a control job (R52, R56). -/
theorem Work.isHost_of_claim {w : Work} {x : EntryNo × CounterClaim} (h : w.claim = some x) : w.isHost = false := by
  cases w <;> simp_all [Work.claim, Work.isHost]

/-- A job that is about to ask is waiting and has not asked yet (R56). -/
theorem Job.asks_eq_some {j : Job} {e : EntryNo} :
    j.asks = some e ↔ j.state = .waiting ∧ j.work.claim = some (e, .unasked) := by
  unfold Job.asks
  split
  · simp_all
  · next other =>
    refine ⟨nofun, fun ⟨waiting, claim⟩ => absurd claim (other e waiting)⟩

/-- A first job that asks for its counter (R56). -/
theorem State.first_of_asks {e : EntryNo} (h : (s.firstJob l).bind Job.asks = some e) :
    ∃ before j after, s.First l before j after ∧ j.state = .waiting ∧ j.work.claim = some (e, .unasked) := by
  obtain ⟨j, first, asks⟩ := Option.bind_eq_some_iff.mp h
  obtain ⟨before, after, h⟩ := State.first_of_firstJob first
  exact ⟨before, j, after, h, Job.asks_eq_some.mp asks⟩

/-! ## Rounds and triggers -/

theorem State.failRound_shifts (s : State) (l : Link) : s.Shifts (s.failRound l) := by
  have reported := s.occurrence_shifts l .renewFail none none
  unfold State.failRound
  split
  · exact .refl _
  · dsimp only
    split <;> exact reported.upTo rfl

theorem State.wornRoot_shifts (s : State) (l : Link) : s.Shifts (s.wornRoot l) := by
  unfold State.wornRoot
  split
  · exact s.failRound_shifts l
  · exact s.failRound_shifts l
  all_goals exact .refl _

theorem RootEntry.answer_ready {r : RootEntry} (h : r.answer = .ready) : r.outCounter + 1 ≤ r.stored.ceiling := by
  unfold RootEntry.answer at h
  split_ifs at h
  assumption

theorem askFirst_shifts (fuel : Nat) (l : Link) (s : State) : s.Shifts (askFirst fuel l s) := by
  induction fuel generalizing s with
  | zero => exact .refl _
  | succ fuel ih =>
    unfold askFirst
    split
    · exact .refl _
    · next e asks =>
      obtain ⟨before, j, after, first, waiting, claim⟩ := State.first_of_asks asks
      split
      · next answer => exact first.withClaim_shifts waiting claim fun _ => ⟨e, .inl rfl, RootEntry.answer_ready answer⟩
      · exact (first.withClaim_shifts waiting claim (d := .raising) nofun).trans (State.raiseCeiling_shifts _ e)
      · have dropped : s.Shifts (s.removeFirst l) := by
          rw [first.removeFirst]
          exact .single (.drops before j after first.1 waiting (by simp [Job.isControl, Work.isHost_of_claim claim]))
        exact ((dropped.trans (State.serveReleased_shifts _)).trans (State.wornRoot_shifts _ l)).trans (ih _)

theorem State.settleFirst_shifts (s : State) (l : Link) : s.Shifts (s.settleFirst l) := askFirst_shifts _ l s

theorem State.createNext_stores (s : State) (l : Link) : (s.createNext l).stores = s.stores := by
  unfold State.createNext
  split <;> rfl

/-- The root jobs of a link ask of the entry it is attached to (R30). -/
theorem State.attached_of_rootBinding {root : RootBinding} (h : s.rootBinding l = some root) :
    s.stores.attached l = some root.entry := by
  unfold State.rootBinding at h
  split at h
  · contradiction
  · next e entry =>
    split at h
    · contradiction
    · obtain rfl := Option.some.inj h
      simp [State.stores, entry]

/-- A control job accepted where there is room (R65). -/
theorem State.append_shifts {work : Work} (room : s.controlRoom = true) (control : work.isHost = false)
    (claim : ∀ e c, work.claim = some (e, c) → c = .unasked ∧ s.stores.attached l = some e) :
    s.Shifts (s.append (waitingJob l work)) := by
  obtain ⟨pool, free⟩ := s.controlRoom_iff.mp room
  exact .single (.accepts l work control pool free claim)

theorem State.appendOffer_shifts (room : s.controlRoom = true) : s.Shifts (s.appendOffer l) := by
  unfold State.appendOffer
  split
  · next bound _ =>
    exact State.append_shifts room rfl (by rintro e c ⟨⟩; exact ⟨rfl, State.attached_of_rootBinding bound⟩)
  · exact .refl _

theorem State.appendAsk_shifts (room : s.controlRoom = true) : s.Shifts (s.appendAsk l) := by
  unfold State.appendAsk
  split
  · next bound _ =>
    exact State.append_shifts room rfl (by rintro e c ⟨⟩; exact ⟨rfl, State.attached_of_rootBinding bound⟩)
  · exact .refl _

/-- Room for a control job is a matter of the stores. -/
theorem State.controlRoom_stores (h : t.stores = s.stores) : t.controlRoom = s.controlRoom := by
  have pool : t.pool = s.pool := congrArg Stores.pool h
  have slots : t.unsolicitedInUse = s.unsolicitedInUse := congrArg Stores.unsolicited h
  rw [Bool.eq_iff_iff, State.controlRoom_iff, State.controlRoom_iff, pool, slots]

theorem State.requestOffer_shifts (s : State) (l : Link) : s.Shifts (s.requestOffer l) := by
  unfold State.requestOffer
  split
  · next room =>
    have created := s.createNext_stores l
    have offered := State.appendOffer_shifts (s := s.createNext l) (l := l)
      ((State.controlRoom_stores created).trans room)
    exact (offered.since created).trans ((State.settleFirst_shifts _ l).since rfl)
  · exact .refl _

theorem State.retryOffer_shifts (s : State) (l : Link) : s.Shifts (s.retryOffer l) := by
  unfold State.retryOffer
  split
  · next room => exact (State.appendOffer_shifts room).trans ((State.settleFirst_shifts _ l).since rfl)
  · exact .of_eq rfl

theorem State.requestAsk_shifts (s : State) (l : Link) : s.Shifts (s.requestAsk l) := by
  unfold State.requestAsk
  split
  · next room => exact (State.appendAsk_shifts room).trans ((State.settleFirst_shifts _ l).since rfl)
  · exact .refl _

theorem State.retryAsk_shifts (s : State) (l : Link) : s.Shifts (s.retryAsk l) := by
  unfold State.retryAsk
  split
  · next room => exact (State.appendAsk_shifts room).trans ((State.settleFirst_shifts _ l).since rfl)
  · exact .of_eq rfl

theorem State.startRound_shifts (s : State) (l : Link) : s.Shifts (s.startRound l) := by
  unfold State.startRound
  split
  · exact .refl _
  · split
    · exact (State.requestOffer_shifts _ l).since rfl
    · exact (State.requestAsk_shifts _ l).since rfl

theorem State.trigger_shifts (s : State) (l : Link) (reason : Reason) : s.Shifts (s.trigger l reason) := by
  unfold State.trigger
  split
  · exact (State.startRound_shifts _ l).since rfl
  · exact .of_eq rfl

/-! ## Outbound traffic -/

/-- A link stays attached to its root entry while the link supervisor's events change its entry (R120 to R133). -/
theorem LinkEntry.Changed.rootEntry {e e' : LinkEntry} (changed : e.Changed e') : e'.rootEntry = e.rootEntry := by
  cases changed with
  | beat | policy | tick | loseLock => rfl
  | silent _ => unfold LinkEntry.silent; split <;> rfl
  | bad => unfold LinkEntry.bad; split <;> rfl
  | good =>
    unfold LinkEntry.good
    split
    · rfl
    · split <;> rfl
    · rfl
    · rfl

theorem State.onRenewal_stores (s : State) (l : Link) (f : RenewalContext → RenewalContext) :
    (s.onRenewal l f).stores = s.stores := rfl

theorem State.onEntry_stores {f : LinkEntry → LinkEntry} (same : ∀ e, (f e).rootEntry = e.rootEntry) :
    (s.onEntry l f).stores = s.stores := by
  have attached : ∀ m, ((s.onEntry l f).entry m).map LinkEntry.rootEntry = (s.entry m).map LinkEntry.rootEntry := by
    intro m
    by_cases h : m = l
    · subst h
      rw [State.entry_onEntry_same, Option.map_map]
      exact congrArg (fun g => (s.entry m).map g) (funext same)
    · rw [State.entry_onEntry_ne s l m f h]
  exact congrArg (fun a => { s.stores with attached := a }) (funext attached)

theorem State.setEntry_stores {e e' : LinkEntry} (entry : s.entry l = some e) (same : e'.rootEntry = e.rootEntry) :
    (s.setEntry l (some e')).stores = s.stores := by
  have constant : s.setEntry l (some e') = s.onEntry l fun x => { e' with rootEntry := x.rootEntry } := by
    rw [State.onEntry, entry, Option.map_some, ← same]
  rw [constant]
  exact State.onEntry_stores fun _ => rfl

theorem State.softCross_shifts (s : State) (l : Link) (role : SlotRole) : s.Shifts (s.softCross l role) := by
  unfold State.softCross
  split
  · exact .refl _
  · split
    · exact (State.trigger_shifts _ l .wear).since rfl
    · exact .refl _

theorem State.outboundAccepted_stores (s : State) (l : Link) : (s.outboundAccepted l).stores = s.stores := by
  rw [State.outboundAccepted, State.onRenewal_stores, State.onEntry_stores]
  exact fun _ => rfl

/-- An outbound job joins the pool, and what follows of it is a trigger (R38, R59, R65). -/
theorem State.acceptOutbound_shifts (s : State) (l : Link) (k : KeySlot) (n : Nat) (work : SlotBinding → Nat → Work) :
    (s.append (waitingJob l (work (k.binding (s.outboundRole l)) (k.outSequence + 1)))).Shifts
      (s.acceptOutbound l k n work) :=
  (State.softCross_shifts _ l _).since (State.outboundAccepted_stores _ l)

theorem State.refuseForWear_shifts (s : State) (l : Link) (k : KeySlot) : s.Shifts (s.refuseForWear l k) := by
  have reported := s.occurrence_shifts l .spent (some k.epoch) none
  unfold State.refuseForWear
  dsimp only
  split
  · exact reported.trans (State.trigger_shifts _ l .spent)
  · exact reported

/-- A request for a BEAT or PROOF is accepted where there is room (R65). -/
theorem State.controlRoom_of_accepted (h : s.controlAnswer l = .accepted) : s.controlRoom = true := by
  unfold State.controlAnswer at h
  split at h
  · assumption
  · contradiction

theorem State.requestTraffic_shifts (s : State) (l : Link) {work : SlotBinding → Nat → Work}
    (control : ∀ slot n, (work slot n).isHost = false) (claim : ∀ slot n, (work slot n).claim = none) :
    s.Shifts (s.requestTraffic l work) := by
  unfold State.requestTraffic
  split
  · exact .refl _
  · next k _ =>
    split
    · next accepted =>
      have joined := State.append_shifts (State.controlRoom_of_accepted accepted) (control _ _)
        (l := l) (work := work (k.binding (s.outboundRole l)) (k.outSequence + 1)) (by simp [claim])
      exact joined.trans (s.acceptOutbound_shifts l k 0 work)
    · exact s.refuseForWear_shifts l k
    · exact .refl _
    · exact .refl _

theorem State.requestBeat_shifts (s : State) (l : Link) : s.Shifts (s.requestTraffic l .beat) :=
  s.requestTraffic_shifts l (fun _ _ => rfl) fun _ _ => rfl

theorem State.requestProof_shifts (s : State) (l : Link) : s.Shifts (s.requestProof l) :=
  s.requestTraffic_shifts l (fun _ _ => rfl) fun _ _ => rfl

theorem State.requestConfirm_shifts (s : State) (l : Link) : s.Shifts (s.requestConfirm l) := by
  unfold State.requestConfirm
  split
  · exact s.occurrence_shifts l .beatSkip none none
  all_goals exact s.requestBeat_shifts l

/-! ## The expiries and requests of a tick -/

theorem State.expireBeat_shifts (s : State) (l : Link) : s.Shifts (s.expireBeat l) := by
  have timer : ∀ (t : State) (timer : Timer), (t.onEntry l fun e => { e with beatTimer := timer }).stores = t.stores :=
    fun t timer => State.onEntry_stores fun _ => rfl
  unfold State.expireBeat
  split
  · exact .refl _
  · split
    · unfold State.takeBeatExpiry
      dsimp only
      split
      · exact s.requestBeat_shifts l
      · exact (s.occurrence_shifts l .beatSkip none none).upTo (timer _ _)
      · exact (s.requestBeat_shifts l).upTo (timer _ _)
      · exact .of_eq (timer _ _)
    · exact .refl _

theorem State.takeClaim_shifts (s : State) (l : Link) : s.Shifts (s.takeClaim l) := by
  unfold State.takeClaim
  dsimp only
  split
  · exact (State.requestOffer_shifts _ l).since rfl
  · exact (State.requestAsk_shifts _ l).since rfl
  · exact (State.retryOffer_shifts _ l).since rfl
  · exact (State.retryAsk_shifts _ l).since rfl
  · exact .of_eq rfl
  · exact .of_eq rfl
  · exact .of_eq rfl

theorem State.takePreparing_shifts (s : State) (l : Link) : s.Shifts (s.takePreparing l) := by
  unfold State.takePreparing
  split
  · exact s.takeClaim_shifts l
  · exact .refl _

theorem State.takeAsking_shifts (s : State) (l : Link) : s.Shifts (s.takeAsking l) := by
  unfold State.takeAsking
  split
  · exact s.takeClaim_shifts l
  · exact .refl _

theorem State.takeRetry_shifts (s : State) (l : Link) : s.Shifts (s.takeRetry l) := by
  unfold State.takeRetry
  split
  · exact s.takeClaim_shifts l
  · exact .refl _

theorem State.takeConfirm_shifts (s : State) (l : Link) : s.Shifts (s.takeConfirm l) := by
  unfold State.takeConfirm
  split
  · exact (State.requestConfirm_shifts _ l).since rfl
  · exact .refl _

theorem State.expireOffer_shifts (s : State) (l : Link) : s.Shifts (s.expireOffer l) := by
  unfold State.expireOffer
  split
  · exact .refl _
  · split
    · split
      · exact (State.retryOffer_shifts _ l).since rfl
      · exact (State.failRound_shifts _ l).since rfl
    · exact .refl _

theorem State.expireAsk_shifts (s : State) (l : Link) : s.Shifts (s.expireAsk l) := by
  unfold State.expireAsk
  split
  · exact .refl _
  · split
    · split
      · exact (State.retryAsk_shifts _ l).since rfl
      · exact (State.failRound_shifts _ l).since rfl
    · exact .refl _

theorem State.expireRest_shifts (s : State) (l : Link) : s.Shifts (s.expireRest l) := by
  unfold State.expireRest
  split
  · split
    · exact s.startRound_shifts l
    · exact .of_eq rfl
  · exact .refl _

theorem State.expireRenewal_shifts (s : State) (l : Link) : s.Shifts (s.expireRenewal l) := by
  unfold State.expireRenewal
  split
  · exact .refl _
  · split
    · refine .trans (.since (State.occurrence_shifts _ l _ _ _) ?_) ((State.trigger_shifts _ l .due).since rfl)
      rfl
    · exact .refl _

theorem State.expireSilence_shifts (s : State) (l : Link) : s.Shifts (s.expireSilence l) := by
  unfold State.expireSilence
  split
  · exact .refl _
  · next e entry =>
    split
    · next expiring =>
      have reported := (State.occurrence_shifts _ l .silent none none).since
        (State.setEntry_stores entry (LinkEntry.Changed.silent expiring).rootEntry)
      dsimp only
      split
      · exact reported.trans (State.trigger_shifts _ l .loss)
      · exact reported
    · exact .refl _

theorem State.takeControlClaim_shifts (s : State) (c : ControlClaim) : s.Shifts (s.takeControlClaim c) := by
  cases c with
  | beat l => exact s.expireBeat_shifts l
  | preparing l => exact s.takePreparing_shifts l
  | asking l => exact s.takeAsking_shifts l
  | retry l => exact s.takeRetry_shifts l
  | confirm l => exact s.takeConfirm_shifts l
  | offerTimer l => exact s.expireOffer_shifts l
  | askTimer l => exact s.expireAsk_shifts l
  | restTimer l => exact s.expireRest_shifts l
  | renewalTimer l => exact s.expireRenewal_shifts l
  | silence l => exact s.expireSilence_shifts l

/-! ## Contested slots -/

theorem State.serveOne_shifts (free : s.unsolicitedFree = true) (claims : List ControlClaim) (n : Nat) :
    s.Shifts (s.serveOne claims n) := by
  unfold State.serveOne
  split
  · exact s.takeControlClaim_shifts _
  · unfold State.serveLowest
    split
    · exact .refl _
    · next l rest _ => exact (State.placeNotice_shifts (s := { s with owed := rest }) l free).since rfl

theorem serveContested_shifts (fuel : Nat) (s : State) : s.Shifts (serveContested fuel s) := by
  induction fuel generalizing s with
  | zero => exact s.serveOwed_shifts
  | succ fuel ih =>
    unfold serveContested
    split
    · exact .refl _
    · exact s.serveOwed_shifts
    · split
      · next free => exact ((State.serveOne_shifts (s := s.chosen) free _ _).since rfl).trans (ih _)
      · exact .refl _

theorem State.serveFreed_shifts (s : State) : s.Shifts s.serveFreed := serveContested_shifts _ s

theorem contestSlots_shifts {request : State → State} (h : ∀ u : State, u.Shifts (request u)) (l : Link) (fuel : Nat)
    (s : State) : s.Shifts (contestSlots l request fuel s) := by
  induction fuel generalizing s with
  | zero => exact h s
  | succ fuel ih =>
    unfold contestSlots
    dsimp only
    split
    · next free =>
      split
      · exact (h s.chosen).since rfl
      · exact ((State.serveOne_shifts (s := s.chosen) (Bool.and_eq_true_iff.mp free).2 _ _).since rfl).trans (ih _)
    · exact h s

theorem State.contest_shifts {request : State → State} (h : ∀ u : State, u.Shifts (request u)) (s : State) (l : Link) :
    s.Shifts (s.contest l request) := by
  unfold State.contest
  split
  · exact (contestSlots_shifts h l _ s).trans (State.serveReleased_shifts _)
  · exact h s

/-! ## Verdicts, promotion and installation -/

theorem State.goodVerdict_stores (s : State) (l : Link) : (s.goodVerdict l).stores = s.stores :=
  State.onEntry_stores fun _ => LinkEntry.Changed.good.rootEntry

theorem State.badVerdict_shifts (s : State) (l : Link) : s.Shifts (s.badVerdict l) := by
  unfold State.badVerdict
  split
  · exact .refl _
  · next e entry =>
    split
    · have lost := (State.occurrence_shifts _ l .loss none none).since
        (State.setEntry_stores entry (e' := { e with state := .hunt, goodCount := 0, badCount := 0 }) rfl)
      unfold State.loseLock
      dsimp only
      split
      · exact lost.trans (State.trigger_shifts _ l .loss)
      · exact lost
    · exact .of_eq (State.setEntry_stores entry LinkEntry.Changed.bad.rootEntry)

theorem State.promote_shifts {e : LinkEntry} (entry : s.entry l = some e) : s.Shifts (s.promote l e) := by
  have moved : ((s.setKeys l ((s.keySet l).promote e.policy.graceTicks)).setEntry l
      (some (e.promoted (s.outboundSlot l).isSome))).stores = s.stores :=
    State.setEntry_stores (s := s.setKeys l _) entry rfl
  unfold State.promote
  dsimp only
  split
  · exact .of_eq moved
  · refine .trans (.since (State.withdraw_shifts _ l fun _ => Work.isHost_of_isOffer) ?_)
      (State.contest_shifts (fun u => u.requestConfirm_shifts l) _ l)
    rw [State.onRenewal_stores, moved]

theorem State.loseCurrent_stores (s : State) (l : Link) : (s.loseCurrent l).stores = s.stores := by
  rw [State.loseCurrent, State.onRenewal_stores, State.onEntry_stores]
  exact fun _ => rfl

theorem State.installOffer_stores (s : State) (l : Link) (e : LinkEntry) (x : OfferText) :
    (s.installOffer l e x).stores = s.stores := by
  have lost : ∀ (b : Bool) (u : State), u.stores = s.stores →
      (if b = true then u.loseCurrent l else u).stores = s.stores := by
    intro b u same
    split
    · exact (u.loseCurrent_stores l).trans same
    · exact same
  unfold State.installOffer
  dsimp only
  split
  · exact lost _ _ rfl
  · split
    · rw [State.onEntry_stores]
      · exact lost _ _ rfl
      · exact fun _ => rfl
    · exact lost _ _ rfl

theorem State.validOffer_shifts (s : State) (l : Link) (x : OfferText) : s.Shifts (s.validOffer l x) := by
  unfold State.validOffer
  split
  · exact .refl _
  · next e _ =>
    split
    · exact .refl _
    · refine .trans (.since (State.withdraw_shifts _ l fun _ => Work.isHost_of_isAsk) ?_)
        (State.contest_shifts (fun u => u.requestProof_shifts l) _ l)
      rw [State.onRenewal_stores, State.installOffer_stores]

theorem State.releaseActs_shifts (s : State) (l : Link) (content : RootContent) :
    s.Shifts (s.releaseActs l content) := by
  cases content with
  | offer x => exact s.validOffer_shifts l x
  | ask reason => exact (State.trigger_shifts _ l reason).since rfl

/-! ## What a command adds -/

/-- One change of the root store that no shared operation makes: the in-counter of a HELD record, ROOT-LOAD and
ROOT-ERASE, ATTACH and DETACH, the start of a write, its completion, and its cut (R74, R76, R77, R82, R84, R85, R86). -/
inductive RootEvent (x : Stores) : Stores → Prop
  | counts (e n) : RootEvent x (x.setRoot e { x.root e with inCounter := n })
  | loads (e c n) : (x.root e).contents = none →
      RootEvent x (x.setRoot e
        { x.root e with contents := some c, inCounter := n, outCounter := (x.root e).stored.ceiling })
  | erases (e) : (x.root e).bound = none → RootEvent x (x.setRoot e { x.root e with contents := none })
  | binds (l e) : x.attached l = none → (x.root e).contents.isSome = true → (x.root e).bound = none →
      RootEvent x { x.setRoot e { x.root e with bound := some l } with
        attached := Function.update x.attached l (some e) }
  | unbinds (l e) : x.attached l = some e → (∀ j ∈ x.pool, j.link ≠ l) →
      RootEvent x { x.setRoot e { x.root e with bound := none } with attached := Function.update x.attached l none }
  | starts (e queue) : x.nvWrite = none → x.nvQueue = e :: queue →
      RootEvent x { x with nvWrite := some { entry := e, image := (x.root e).image, again := false } }
  | lands (w) : x.nvWrite = some w → RootEvent x { x.setRoot w.entry { x.root w.entry with stored := w.image } with
      nvWrite := none
      nvQueue := x.nvQueue.tail ++ if w.again then [w.entry] else [] }
  | cuts : RootEvent x { x with nvWrite := none }
  | cutsNew (w) : x.nvWrite = some w →
      RootEvent x { x.setRoot w.entry { x.root w.entry with stored := w.image } with nvWrite := none }

/-- One change of the stores at a command that is no restart, frame arrival or end of a read, with the number of answers
owed to requests that no store holds: a request taken from the queue, a host job that has left the pool or a root reply
that has fallen due leaves an answer owed, and a reply placed, a host job accepted or a root reply that waits for its
write settles one (R60, R61, R85, R161, R162). -/
inductive Deal : Stores × Nat → Stores × Nat → Prop
  | shift {x y n} : Shift x y → Deal (x, n) (y, n)
  | root {x y n} : RootEvent x y → Deal (x, n) (y, n)
  | takes {x n} (r rest) : x.requests = r :: rest → Deal (x, n) ({ x with requests := rest }, n + 1)
  | replies {x n} (fs) : (∀ f ∈ fs, f.share = .requestOwned) →
      Deal (x, n + fs.length) ({ x with output := x.output ++ fs }, n)
  | waits {x n} (p) : Deal (x, n + 1) ({ x with rootReplies := x.rootReplies ++ [p] }, n)
  | due {x n} (ps k) : ps.length + k = x.rootReplies.length → Deal (x, n) ({ x with rootReplies := ps }, n + k)
  | hosts {x n} (j) : j.isHost = true → x.pool.countP Job.isHost < 28 → x.pool.length < 32 →
      Deal (x, n + 1) ({ x with pool := x.pool ++ [j] }, n)
  | leave {x n} (jobs k) : List.Sublist jobs x.pool → jobs.countP Job.isHost + k = x.pool.countP Job.isHost →
      Deal (x, n) ({ x with pool := jobs }, n + k)
  | emits {x n} (before j after f) : x.pool = before ++ j :: after → j.isControl = true → f.share = .unsolicited →
      Deal (x, n) ({ x with pool := before ++ after, output := x.output ++ [f] }, n)
  | state {x n} (before j after state) : x.pool = before ++ j :: after →
      Deal (x, n) ({ x with pool := before ++ { j with state := state } :: after }, n)
  | grants {x n} (before j after e) : x.pool = before ++ j :: after → (∀ i ∈ before, i.link ≠ j.link) →
      j.work.claim = some (e, .ready) →
      Deal (x, n) ({ x.setRoot e { x.root e with outCounter := (x.root e).outCounter + 1 } with
        pool := before ++ j.withClaim (.taken ((x.root e).outCounter + 1)) :: after }, n)
  | drains {x n} (k) : Deal (x, n) ({ x with log := x.log.drop k, lost := 0 }, n)
  | ticks {x n} : Deal (x, n) ({ x with tickCount := (x.tickCount + 1) % 4294967296 }, n)

/-- From `s` with `n` answers owed to `t` with `m` owed the stores have moved as commands move them. -/
def State.Deals (s : State) (n : Nat) (t : State) (m : Nat) : Prop :=
  Relation.ReflTransGen Deal (s.stores, n) (t.stores, m)

variable {n m k : Nat}

theorem State.Deals.single (h : Deal (s.stores, n) (t.stores, m)) : s.Deals n t m := Relation.ReflTransGen.single h

theorem State.Deals.trans (h : s.Deals n t m) (i : t.Deals m u k) : s.Deals n u k := Relation.ReflTransGen.trans h i

theorem State.Shifts.deals (h : s.Shifts t) (n : Nat) : s.Deals n t n :=
  Relation.ReflTransGen.lift (fun x => (x, n)) (fun _ _ => Deal.shift) _ _ h

theorem State.Deals.refl (s : State) (n : Nat) : s.Deals n s n := (State.Shifts.refl s).deals n

theorem State.Deals.of_eq (h : t.stores = s.stores) : s.Deals n t n := (State.Shifts.of_eq h).deals n

theorem State.Deals.shifts (h : s.Deals n t m) (i : t.Shifts u) : s.Deals n u m := h.trans (i.deals m)

theorem State.Deals.since (h : u.Deals n t m) (same : u.stores = s.stores) : s.Deals n t m :=
  .trans (.of_eq same) h

/-- Slots left free are given out at the end of a command. -/
theorem State.Deals.freed (h : s.Deals n t m) : s.Deals n t.serveFreed m := h.shifts t.serveFreed_shifts

/-! ## Answers -/

theorem State.entry_of_attachedLink {b : Byte} {e : LinkEntry} (h : s.attachedLink b = some (l, e)) :
    s.entry l = some e := by
  unfold State.attachedLink at h
  split at h
  · contradiction
  · obtain ⟨e', entry, same⟩ := Option.map_eq_some_iff.mp h
    cases same
    exact entry

theorem State.place_deals {f : OutFrame} (reply : f.share = .requestOwned) : s.Deals (n + 1) (s.place f) n :=
  .single (.replies [f] (by simpa using reply))

/-- A reply settles the answer its request is owed (R161). -/
theorem State.reply_deals (s : State) (r : Request) (status : Status) (fields : List Byte) :
    s.Deals 1 (s.reply r status fields) 0 :=
  State.place_deals rfl

/-- What is no part of the stores has moved, and the reply is placed. -/
theorem State.reply_deals_of_eq (h : u.stores = s.stores) (r : Request) (status : Status) (fields : List Byte) :
    s.Deals 1 (u.reply r status fields) 0 :=
  (u.reply_deals r status fields).since h

theorem State.Shifts.reply_deals (h : s.Shifts t) (r : Request) (status : Status) (fields : List Byte) :
    s.Deals 1 (t.reply r status fields) 0 :=
  (h.deals 1).trans (t.reply_deals r status fields)

theorem takeRequest_deals {kind : Byte} {f : Request → State → State} (h : ∀ r u, State.Deals u 1 (f r u) 0)
    (s : State) :
    s.Deals 0 (takeRequest kind f s) 0 := by
  unfold takeRequest
  split
  · exact .refl s 0
  · next r rest requests =>
    split
    · exact .trans (t := { s with requests := rest }) (.single (.takes r rest requests)) (h r _)
    · exact .refl s 0

theorem onAttached_deals {f : Request → Link → LinkEntry → State → State} (r : Request) (s : State)
    (h : ∀ l e, s.entry l = some e → s.Deals 1 (f r l e s) 0) : s.Deals 1 (onAttached f r s) 0 := by
  unfold onAttached
  split
  · exact s.reply_deals r _ _
  · split
    · exact s.reply_deals r _ _
    · next attached => exact h _ _ (State.entry_of_attachedLink attached)

/-! ## Jobs that leave the pool -/

theorem countP_eraseP {α : Type} {p q : α → Bool} {xs : List α} {x : α} (found : xs.find? p = some x)
    (hq : q x = true) :
    (xs.eraseP p).countP q + 1 = xs.countP q := by
  obtain ⟨hp, before, after, rfl, others⟩ := List.find?_eq_some_iff_append.mp found
  rw [eraseP_of_split hp fun y hy => by simpa using others y hy]
  simp [hq]
  omega

/-- A host job leaves its lane and its reply is placed (R60, R62, R63). -/
theorem State.finishLane_deals {lane : Lane} {j : Job} {f : OutFrame} (found : s.laneJob lane = some j)
    (host : j.isHost = true) (reply : f.share = .requestOwned) (l : Link) :
    s.Deals 0 ((s.place f).finishLane lane l) 0 := by
  have left : s.Deals 0 (s.removeLane lane) 1 := .single (.leave _ 1 List.eraseP_sublist (countP_eraseP found host))
  have answered : s.Deals 0 ((s.removeLane lane).place f) 0 := left.trans (State.place_deals reply)
  exact (answered.shifts (State.settleFirst_shifts _ l)).freed

/-- A control job leaves its lane and its EMIT takes its slot (R66). -/
theorem State.finishLane_emits {lane : Lane} {j : Job} {f : OutFrame} (found : s.laneJob lane = some j)
    (control : j.isControl = true) (emit : f.share = .unsolicited) (l : Link) :
    s.Deals 0 ((s.place f).finishLane lane l) 0 := by
  obtain ⟨before, after, inLane⟩ := State.inLane_of_laneJob found
  have left : s.Deals 0 ((s.place f).removeLane lane) 0 := by
    have pool : (s.place f).InLane lane before j after := inLane
    rw [pool.removeLane]
    exact .single (.emits before j after f inLane.1 control emit)
  exact (left.shifts (State.settleFirst_shifts _ l)).freed

/-- A HELD record acts, is answered and leaves the pool (R64). -/
theorem State.release_deals {j : Job} {tag : Byte} {root : RootBinding} {record : List Byte} {content : RootContent}
    (first : s.firstJob l = some j) (state : j.state = .held content) (work : j.work = .decipherRoot tag root record) :
    s.Deals 0 (s.release l tag record content) 0 := by
  have acts := s.releaseActs_shifts l content
  have still := acts.firstJob first (by simp [state])
  have left : (s.releaseActs l content).Deals 0 ((s.releaseActs l content).removeFirst l) 1 :=
    .single (.leave _ 1 List.eraseP_sublist (countP_eraseP still (by simp [Job.isHost, work, Work.isHost])))
  have answered := left.trans (State.place_deals (f := decipherReply tag l record .consumed) rfl)
  exact ((acts.deals 0).trans answered).shifts (State.settleFirst_shifts _ l)

/-! ## The root store -/

theorem State.startWrite_deals (s : State) : s.Deals n s.startWrite n := by
  unfold State.startWrite
  split
  · next e queue free head =>
    have started : s.Deals n { s with nvWrite := some { entry := e, image := (s.root e).image, again := false } } n :=
      .single (.root (.starts e queue free head))
    exact started.trans (.single (.due _ 0 (by simp [State.stores])))
  · exact .refl s n
  · exact .refl s n

theorem State.placeRootReplies_deals (s : State) (e : EntryNo) : s.Deals n (s.placeRootReplies e) n := by
  have split := List.length_eq_length_filter_add (l := s.rootReplies) fun r => decide (r.entry = e) && r.covered
  have due : s.Deals n { s with rootReplies := s.rootReplies.filter fun r => !(decide (r.entry = e) && r.covered) }
      (n + ((s.rootReplies.filter fun r => decide (r.entry = e) && r.covered).map fun r =>
        replyFrame r.tag r.kind .ok [numberByte e]).length) :=
    .single (.due _ _ (by rw [List.length_map]; exact (Nat.add_comm _ _).trans split.symm))
  refine due.trans (.single (.replies _ fun f hf => ?_))
  obtain ⟨r, -, rfl⟩ := List.mem_map.mp hf
  rfl

theorem State.reportWrite_deals (s : State) (e : EntryNo) : s.Deals 0 (s.reportWrite e) 0 := by
  unfold State.reportWrite
  split
  · exact .refl s 0
  · next l bound =>
    split
    · exact .refl s 0
    · next j first =>
      split
      · next state work =>
        split
        · exact State.release_deals first state work
        · exact .refl s 0
      · next waiting =>
        split
        · next n claim =>
          split
          · next ready =>
            obtain ⟨before, after, h⟩ := State.first_of_firstJob first
            exact (h.withClaim_shifts waiting claim fun _ => ⟨e, .inr bound, ready⟩).deals 0
          · exact .refl s 0
        · exact .refl s 0
      · exact .refl s 0

theorem State.finishWrite_deals {w : NvWrite} (write : s.nvWrite = some w) : s.Deals 0 (s.finishWrite w) 0 := by
  have landed : s.Deals 0 { s.landWrite w with
      nvWrite := none, nvQueue := s.nvQueue.tail ++ if w.again then [w.entry] else [] } 0 :=
    .single (.root (.lands w write))
  exact (((landed.trans (State.reportWrite_deals _ w.entry)).trans (State.placeRootReplies_deals _ w.entry)).trans
    (State.startWrite_deals _)).freed

theorem State.cutWrite_deals (s : State) : s.Deals 0 s.cutWrite 0 := by
  unfold State.cutWrite
  split
  · exact .refl s 0
  · next w write =>
    split
    · exact .single (.root .cuts)
    · exact .single (.root (.cutsNew w write))

theorem takeRootLoad_deals (r : Request) (s : State) : s.Deals 1 (takeRootLoad r s) 0 := by
  unfold takeRootLoad
  split
  · exact s.reply_deals r _ _
  · next b _ =>
    split
    · exact s.reply_deals r _ _
    · next empty =>
      split
      · exact s.reply_deals r _ _
      · next key _ =>
        have loaded : s.Deals 1 (s.setRoot b.entry ((s.root b.entry).load b key)) 1 :=
          .single (.root (.loads b.entry _ b.floor (Option.not_isSome_iff_eq_none.mp empty)))
        exact (loaded.shifts (State.requestWrite_shifts _ b.entry)).trans (.single (.waits _))

theorem takeRootErase_deals (r : Request) (s : State) : s.Deals 1 (takeRootErase r s) 0 := by
  unfold takeRootErase
  split
  · exact s.reply_deals r _ _
  · next e _ =>
    split
    · exact s.reply_deals r _ _
    · split
      · exact s.reply_deals r _ _
      · next unbound =>
        have erased : s.Deals 1 (s.setRoot e { s.root e with contents := none }) 1 :=
          .single (.root (.erases e (Option.not_isSome_iff_eq_none.mp unbound)))
        exact (erased.shifts (State.requestWrite_shifts _ e)).trans (.single (.waits _))

theorem takeRootRead_deals (r : Request) (s : State) : s.Deals 1 (takeRootRead r s) 0 := by
  unfold takeRootRead
  split <;> exact s.reply_deals r _ _

/-! ## The port and the fault monitor -/

theorem State.beginTransaction_stores (s : State) (lead : Byte) : (s.beginTransaction lead).stores = s.stores := by
  unfold State.beginTransaction
  split <;> rfl

theorem State.takeUnknown_deals (s : State) : s.Deals 0 s.takeUnknown 0 := by
  unfold State.takeUnknown
  split
  · exact .refl s 0
  · next r rest requests =>
    split
    · exact .refl s 0
    · exact .trans (t := { s with requests := rest }) (.single (.takes r rest requests)) (State.place_deals rfl)

theorem takeHello_deals (r : Request) (s : State) : s.Deals 1 (takeHello r s) 0 := by
  unfold takeHello
  split
  · exact State.reply_deals_of_eq rfl r _ _
  · exact s.reply_deals r _ _

theorem takeStatus_deals (r : Request) (s : State) : s.Deals 1 (takeStatus r s) 0 := by
  unfold takeStatus
  split <;> exact s.reply_deals r _ _

theorem State.clearFaults_shifts (s : State) (l : Link) (mask : FaultSet) : s.Shifts (s.clearFaults l mask) :=
  (State.judgePending_shifts _ l _).since (s.onFaults_stores l _)

theorem State.enableFaults_shifts (s : State) (l : Link) (mask : FaultSet) : s.Shifts (s.enableFaults l mask) :=
  (State.judgePending_shifts _ l _).since (s.onFaults_stores l _)

theorem takeFaultClear_deals (r : Request) (s : State) : s.Deals 1 (takeFaultClear r s) 0 := by
  unfold takeFaultClear
  split
  · exact s.reply_deals r _ _
  · split
    · exact s.reply_deals r _ _
    · unfold State.faultClear
      split
      · exact s.reply_deals r _ _
      · exact (s.clearFaults_shifts _ _).reply_deals r _ _

theorem takeFaultEnable_deals (r : Request) (s : State) : s.Deals 1 (takeFaultEnable r s) 0 := by
  unfold takeFaultEnable
  split
  · exact s.reply_deals r _ _
  · split
    · exact s.reply_deals r _ _
    · exact (s.enableFaults_shifts _ _).reply_deals r _ _

theorem takeCounterSet_deals (r : Request) (s : State) : s.Deals 1 (takeCounterSet r s) 0 := by
  unfold takeCounterSet
  split
  · exact s.reply_deals r _ _
  · split
    · exact s.reply_deals r _ _
    · exact State.reply_deals_of_eq (s.onFaults_stores _ _) r _ _

theorem State.setMode_shifts (s : State) (m : NoticeMode) : s.Shifts (s.setMode m) := by
  have judged : ∀ ls u, State.Shifts u (judgeLinks s ls u) := by
    intro ls
    induction ls with
    | nil => exact State.Shifts.refl
    | cons l rest ih => exact fun u => (u.judgePending_shifts l _).trans (ih _)
  exact (judged _ _).since rfl

theorem takeNoticeMode_deals (r : Request) (s : State) : s.Deals 1 (takeNoticeMode r s) 0 := by
  unfold takeNoticeMode
  split
  · exact s.reply_deals r _ _
  · exact (s.setMode_shifts _).reply_deals r _ _
  · split
    · exact s.reply_deals r _ _
    · exact (s.setMode_shifts _).reply_deals r _ _

theorem takeLogRead_deals (r : Request) (s : State) : s.Deals 1 (takeLogRead r s) 0 := by
  unfold takeLogRead
  split
  · exact s.reply_deals r _ _
  · next n _ =>
    have drained : s.Deals 1 { s with log := s.log.drop n, lost := 0 } 1 := .single (.drains n)
    exact drained.trans (State.reply_deals _ r _ _)

/-! ## The link supervisor's requests -/

/-- A link table entry written with its stores: the root entry the link is attached to. -/
theorem State.setEntry_attached (s : State) (l : Link) (e : Option LinkEntry) : (s.setEntry l e).stores =
    { s.stores with attached := Function.update s.stores.attached l (e.map LinkEntry.rootEntry) } := by
  refine congrArg (fun a => { s.stores with attached := a }) (funext fun m => ?_)
  by_cases h : m = l
  · subst h
    rw [State.entry_setEntry_same, Function.update_self]
  · rw [State.entry_setEntry_ne s l m e h, Function.update_of_ne h]
    rfl

theorem State.attachLink_deals (closed : s.entry l = none) {e : EntryNo} {c : RootContents}
    (occupied : (s.root e).contents = some c) (unbound : (s.root e).bound = none) (items : List PolicyItem) :
    s.Deals n (s.attachLink l e c items) n := by
  have bound : s.Deals n
      ((s.setRoot e { s.root e with bound := some l }).setEntry l (some (attachedEntry e c items))) n := by
    refine .single ?_
    rw [State.setEntry_attached]
    exact .root (.binds l e (by simp [State.stores, closed]) (Option.isSome_iff_exists.mpr ⟨c, occupied⟩) unbound)
  exact bound.shifts ((State.trigger_shifts _ l .start).since rfl)

theorem takeAttach_deals (r : Request) (s : State) : s.Deals 1 (takeAttach r s) 0 := by
  unfold takeAttach
  split
  · exact s.reply_deals r _ _
  · split
    · exact s.reply_deals r _ _
    · split
      · exact s.reply_deals r _ _
      · next closed =>
        split
        · exact s.reply_deals r _ _
        · next occupied =>
          split
          · exact s.reply_deals r _ _
          · next unbound =>
            exact ((State.attachLink_deals (by simpa using closed) occupied (by simpa using unbound) _).trans
              (State.reply_deals _ r _ _)).freed

/-- A host job is answered ABORTED and no other job is (R70). -/
theorem abortedReply_isSome (l : Link) (j : Job) : (abortedReply l j).isSome = j.isHost := by
  rcases j with ⟨-, work, -⟩
  cases work <;> rfl

/-- The jobs of a link removed, the host jobs among them answered (R70). -/
theorem State.abortJobs_deals (s : State) (l : Link) : s.Deals n (s.abortJobs l) n := by
  have answers : ((s.pool.filter fun j => decide (j.link = l)).filterMap (abortedReply l)).length =
      (s.pool.filter fun j => decide (j.link = l)).countP Job.isHost := by
    rw [List.length_filterMap_eq_countP]
    exact List.countP_congr fun j _ => by rw [abortedReply_isSome]
  have left : s.Deals n { s with pool := s.pool.filter fun j => !decide (j.link = l) }
      (n + ((s.pool.filter fun j => decide (j.link = l)).filterMap (abortedReply l)).length) := by
    refine .single (.leave _ _ List.filter_sublist ?_)
    rw [answers, Nat.add_comm]
    exact (List.countP_eq_countP_filter_add s.pool Job.isHost fun j => decide (j.link = l)).symm
  refine left.trans (.single (.replies _ fun f hf => ?_))
  obtain ⟨j, -, reply⟩ := List.mem_filterMap.mp hf
  obtain ⟨x, -, rfl⟩ := Option.map_eq_some_iff.mp reply
  rfl

theorem State.detachLink_deals {e : LinkEntry} (entry : s.entry l = some e) : s.Deals n (s.detachLink l e) n := by
  unfold State.detachLink
  dsimp only
  refine State.Deals.freed ((s.abortJobs_deals l).trans (.single ?_))
  rw [State.setEntry_attached]
  refine .root (.unbinds l e.rootEntry ?_ fun j hj => ?_)
  · change (s.entry l).map LinkEntry.rootEntry = some e.rootEntry
    rw [entry]
    rfl
  · have gone := (List.mem_filter.mp hj).2
    simpa using gone

theorem takePolicy_deals (r : Request) (s : State) : s.Deals 1 (takePolicy r s) 0 := by
  unfold takePolicy
  split
  · exact s.reply_deals r _ _
  · split
    · exact s.reply_deals r _ _
    · next attached =>
      exact State.reply_deals_of_eq (State.setEntry_stores (State.entry_of_attachedLink attached)
        (LinkEntry.Changed.policy _ _).rootEntry) r _ _

theorem takeLinkRead_deals (r : Request) (s : State) : s.Deals 1 (takeLinkRead r s) 0 := by
  unfold takeLinkRead
  split
  · exact s.reply_deals r _ _
  · split
    · exact s.reply_deals r _ _
    · split <;> exact s.reply_deals r _ _

theorem takeRenew_deals (r : Request) (s : State) : s.Deals 1 (takeRenew r s) 0 := by
  refine onAttached_deals r s fun l e _ => ?_
  split
  · exact ((s.trigger_shifts l .host).reply_deals r _ _).freed
  · exact s.reply_deals r _ _

/-! ## The record engine -/

/-- A host job accepted where there is room settles its request's answer (R59, R61). -/
theorem State.append_deals {work : Work} (room : s.hostRoom = true) (host : work.isHost = true) :
    s.Deals 1 (s.append (waitingJob l work)) 0 := by
  obtain ⟨jobs, pool⟩ := s.hostRoom_iff.mp room
  exact .single (.hosts _ host jobs pool)

theorem takeEncipher_deals (r : Request) (s : State) : s.Deals 1 (takeEncipher r s) 0 := by
  unfold takeEncipher
  split
  · exact s.reply_deals r _ _
  · split
    · exact s.reply_deals r _ _
    · next l _ _ =>
      split
      · exact s.reply_deals r _ _
      · next k _ =>
        split
        · exact s.reply_deals r _ _
        · next room =>
          split
          · exact ((State.append_deals (by simpa using room) rfl).shifts (s.acceptOutbound_shifts l k _ _)).freed
          · exact ((s.refuseForWear_shifts l k).reply_deals r _ _).freed

theorem State.dropAtHeader_deals (s : State) (r : Request) (l : Link) (e : LinkEntry) (record : List Byte)
    (k : FaultKind) : s.Deals 1 (s.dropAtHeader r l e record k) 0 := by
  unfold State.dropAtHeader
  dsimp only
  refine State.Deals.freed (.trans (State.Shifts.deals ?_ 1) (State.place_deals rfl))
  split
  · exact s.occurrence_shifts l k _ _
  · split
    · split
      · exact ((State.occurrence_shifts s.chosen l k _ _).since rfl).trans (State.badVerdict_shifts _ l)
      · exact ((State.badVerdict_shifts s.chosen l).since rfl).trans (State.occurrence_shifts _ l k _ _)
    · exact (s.occurrence_shifts l k _ _).trans (State.badVerdict_shifts _ l)

theorem State.acceptDecipher_deals (s : State) (r : Request) (l : Link) {work : Work} (host : work.isHost = true) :
    s.Deals 1 (s.acceptDecipher r l work) 0 := by
  unfold State.acceptDecipher
  split
  · next room => exact State.append_deals room host
  · exact s.reply_deals r _ _

theorem State.checkHeader_deals (s : State) (r : Request) (l : Link) (e : LinkEntry) (record : List Byte) :
    s.Deals 1 (s.checkHeader r l e record) 0 := by
  unfold State.checkHeader
  split
  · exact s.dropAtHeader_deals r l e record .form
  · split
    · split
      · exact s.dropAtHeader_deals r l e record .form
      · exact s.acceptDecipher_deals r l rfl
    · split
      · exact s.dropAtHeader_deals r l e record .epoch
      · split
        · exact s.dropAtHeader_deals r l e record .epoch
        · exact s.acceptDecipher_deals r l rfl

theorem takeDecipher_deals (r : Request) (s : State) : s.Deals 1 (takeDecipher r s) 0 := by
  unfold takeDecipher
  split
  · exact s.reply_deals r _ _
  · split
    · exact s.reply_deals r _ _
    · exact s.checkHeader_deals r _ _ _

theorem State.completeEncipher_deals (s : State) (lane : Lane) : s.Deals 0 (s.completeEncipher lane) 0 := by
  unfold State.completeEncipher
  split
  · exact .refl s 0
  · next j found =>
    split
    · next work =>
      exact (State.finishLane_deals (s := s.sealing _) found (by rw [Job.isHost, work]; rfl) rfl j.link).since rfl
    · exact .refl s 0

theorem State.acceptInbound_shifts {e : LinkEntry} (entry : s.entry l = some e) (role : SlotRole) (k : KeySlot)
    (record : List Byte) : s.Shifts (s.acceptInbound l e role k record) := by
  unfold State.acceptInbound
  dsimp only
  have crossed := (State.softCross_shifts (s.setKeys l ((s.keySet l).withSlot role
    (some { k.chargeIn (recordLength record) with window := k.window.accept (recordSequence record) }))) l role).since
      (s := s) rfl
  split
  · exact (crossed.trans (State.promote_shifts (((State.softCross_frame _ l role).entry l).trans entry))).upTo
      (State.goodVerdict_stores _ l)
  · exact crossed.upTo (State.goodVerdict_stores _ l)

theorem State.dropInbound_shifts (s : State) (l : Link) (k : FaultKind) (record : List Byte) :
    s.Shifts (s.dropInbound l k record) :=
  (s.badVerdict_shifts l).trans (State.occurrence_shifts _ l k _ _)

theorem State.judgeTraffic_shifts {e : LinkEntry} (entry : s.entry l = some e) (slot : SlotBinding)
    (record : List Byte) : s.Shifts (s.judgeTraffic l e slot record).1 := by
  unfold State.judgeTraffic
  split
  · exact s.dropInbound_shifts l .tag record
  · split
    · exact s.dropInbound_shifts l .epoch record
    · split
      · exact s.dropInbound_shifts l .epoch record
      · split
        · exact State.acceptInbound_shifts entry _ _ record
        · unfold State.dropDuplicate
          split
          · exact s.dropInbound_shifts l .replay record
          · exact .of_eq (s.onFaults_stores l _)
        · exact s.dropInbound_shifts l .late record

theorem State.completeTraffic_deals (s : State) (lane : Lane) : s.Deals 0 (s.completeTraffic lane) 0 := by
  unfold State.completeTraffic
  split
  · exact .refl s 0
  · next j found =>
    split
    · next slot record entry work =>
      have judged := State.judgeTraffic_shifts entry slot record
      exact (judged.deals 0).trans
        (State.finishLane_deals (judged.laneJob found) (by rw [Job.isHost, work]; rfl) rfl j.link)
    · exact .refl s 0

/-- The job of a lane changed in its place. -/
theorem State.InLane.changeFirst {lane : Lane} {before after : List Job} {j : Job} (h : s.InLane lane before j after)
    (f : Job → Job) : changeFirst (fun j => j.isIn lane) f s.pool = before ++ f j :: after := by
  rw [h.1]
  exact changeFirst_of_split (by simp [Job.isIn, h.2.1]) fun i hi => by simp [Job.isIn, h.2.2 i hi]

theorem State.completeRoot_deals (s : State) (lane : Lane) : s.Deals 0 (s.completeRoot lane) 0 := by
  unfold State.completeRoot
  split
  · exact .refl s 0
  · next j found =>
    split
    · next e tag root record entry work =>
      split
      · next k _ =>
        have reported := s.occurrence_shifts j.link k (some 0) (some (recordSequence record))
        exact (reported.deals 0).trans
          (State.finishLane_deals (reported.laneJob found) (by rw [Job.isHost, work]; rfl) rfl j.link)
      · next content judged =>
        obtain ⟨before, after, inLane⟩ := State.inLane_of_laneJob found
        unfold State.holdRoot
        dsimp only
        rw [inLane.changeFirst]
        have held : s.Deals 0 { s with pool := before ++ { j with state := .held content } :: after } 0 :=
          .single (.state before j after _ inLane.1)
        exact (held.trans (.single (.root (.counts root.entry (recordSequence record))))).shifts
          (State.requestWrite_shifts _ root.entry)
    · exact .refl s 0

theorem controlSeal_isHost {e : LinkEntry} {w : Work} {x : RecordKind × Seal} (sealed : controlSeal e w = some x) :
    w.isHost = false := by
  cases w with
  | encipher | decipherTraffic | decipherRoot => cases sealed
  | beat | proof | offer | ask => rfl

theorem State.completeControl_deals (s : State) (lane : Lane) : s.Deals 0 (s.completeControl lane) 0 := by
  unfold State.completeControl
  split
  · exact .refl s 0
  · next j found =>
    split
    · exact .refl s 0
    · next e _ =>
      split
      · exact .refl s 0
      · next kind x sealed =>
        have placed : ((s.sealing x).place (emitFrame j.link kind x.record)).onRenewal j.link (fun c =>
            c.emitted j.work e.policy.offerTicks) = ((s.sealing x).onRenewal j.link fun c =>
            c.emitted j.work e.policy.offerTicks).place (emitFrame j.link kind x.record) := rfl
        rw [placed]
        exact (State.finishLane_emits (s := (s.sealing x).onRenewal j.link _) found
          (by simp [Job.isControl, controlSeal_isHost sealed]) rfl j.link).since rfl

/-! ## The arbiter -/

/-- An eligible job is waiting, and its claim is ready if it has one (R55). -/
theorem Job.isEligible_iff {j : Job} :
    j.isEligible = true ↔ j.state = .waiting ∧ ∀ e c, j.work.claim = some (e, c) → c = .ready := by
  unfold Job.isEligible
  rw [Bool.and_eq_true, decide_eq_true_eq]
  cases j.work.claim with
  | none => simp
  | some x => obtain ⟨e, c⟩ := x; simp

section First

variable {before after : List Job} {j : Job}

/-- Another job of the link in the place of its first. -/
theorem State.First.replaced (h : s.First l before j after) {i : Job} (link : i.link = j.link) :
    { s with pool := before ++ i :: after }.First l before i after :=
  ⟨rfl, link.trans h.2.1, h.2.2⟩

/-- A first job that needs no counter is granted as it is (R58). -/
theorem State.First.grantLink_none (h : s.First l before j after) (claim : j.work.claim = none) (lane : Lane) :
    s.grantLink lane l = { s with pool := before ++ { j with state := .inLane lane } :: after, pointer := l } := by
  have takes : s.takeCounter l = s := by simp [State.takeCounter, h.firstJob, claim]
  rw [State.grantLink, takes, h.onFirst]

/-- An outbound root job takes the counter L + 1 with its grant, and L with it (R56, R58). -/
theorem State.First.grantLink_some (h : s.First l before j after) {e : EntryNo} {c : CounterClaim}
    (claim : j.work.claim = some (e, c)) (lane : Lane) : s.grantLink lane l = { s with
      pool := before ++ { j with state := .inLane lane
                                 work := j.work.withClaim (.taken ((s.root e).outCounter + 1)) } :: after
      roots := s.roots.put e { s.root e with outCounter := (s.root e).outCounter + 1 }
      pointer := l } := by
  have taken := h.replaced (i := j.withClaim (.taken ((s.root e).outCounter + 1))) rfl
  have takes : s.takeCounter l = { s with
      pool := before ++ j.withClaim (.taken ((s.root e).outCounter + 1)) :: after
      roots := s.roots.put e { s.root e with outCounter := (s.root e).outCounter + 1 } } := by
    simp only [State.takeCounter, h.firstJob, Option.bind_some, claim, h.onFirst]
    rfl
  have granted : State.First { s with
      pool := before ++ j.withClaim (.taken ((s.root e).outCounter + 1)) :: after
      roots := s.roots.put e { s.root e with outCounter := (s.root e).outCounter + 1 } } l before _ after := taken
  rw [State.grantLink, takes, granted.onFirst]
  rfl

end First

theorem State.grant_deals (s : State) (lane : Lane) : s.Deals 0 (s.grant lane) 0 := by
  unfold State.grant
  split
  · next l _ next =>
    have eligible : s.eligible l = true := List.find?_some next
    obtain ⟨j, found, fits⟩ := (Option.any_eq_true _ _).mp eligible
    obtain ⟨before, after, first⟩ := State.first_of_firstJob found
    obtain ⟨waiting, ready⟩ := Job.isEligible_iff.mp fits
    cases claim : j.work.claim with
    | none =>
      rw [first.grantLink_none claim]
      exact .single (.state before j after _ first.1)
    | some x =>
      obtain ⟨e, c⟩ := x
      obtain rfl := ready e c claim
      rw [first.grantLink_some claim]
      have counted : s.Deals 0 { s with
          pool := before ++ j.withClaim (.taken ((s.root e).outCounter + 1)) :: after
          roots := s.roots.put e { s.root e with outCounter := (s.root e).outCounter + 1 } } 0 :=
        .single (.grants before j after e first.1 (fun i hi => first.2.1 ▸ first.2.2 i hi) claim)
      exact counted.trans
        (.single (.state before (j.withClaim (.taken ((s.root e).outCounter + 1))) after (.inLane lane) rfl))
  · exact .refl s 0
  · exact .refl s 0

/-! ## One step -/

theorem act_deals {f : State → State} (h : ∀ u, State.Deals u 0 (f u) 0) (next : act f s = .next t) :
    s.Deals 0 t 0 := by
  obtain rfl := Host.Outcome.next.inj next
  split
  · exact h s
  · split
    · split
      · exact .of_eq rfl
      · exact (h _).since rfl
    · exact .refl s 0

theorem act_shifts {f : State → State} (h : ∀ u, State.Shifts u (f u)) (next : act f s = .next t) : s.Deals 0 t 0 :=
  act_deals (fun u => (h u).deals 0) next

theorem act_freed {f : State → State} (h : ∀ u, State.Shifts u (f u))
    (next : act (fun u => (f u).serveFreed) s = .next t) :
    s.Deals 0 t 0 :=
  act_deals (fun u => ((h u).deals 0).freed) next

theorem act_takeRequest_deals {kind : Byte} {f : Request → State → State} (h : ∀ r u, State.Deals u 1 (f r u) 0)
    (next : act (takeRequest kind f) s = .next t) : s.Deals 0 t 0 :=
  act_deals (takeRequest_deals h) next

theorem State.tick_deals (s : State) : s.Deals 0 s.tick 0 := by
  have attached : s.tick.stores.attached = s.stores.attached := by
    funext l
    change ((s.links.each (Option.map LinkEntry.tick)).look l).map LinkEntry.rootEntry =
      (s.entry l).map LinkEntry.rootEntry
    rw [Table.look_each, Option.map_map]
    rfl
  have ticked : s.tick.stores = { s.stores with tickCount := (s.tickCount + 1) % 4294967296 } :=
    congrArg (fun a => { s.stores with tickCount := (s.tickCount + 1) % 4294967296, attached := a }) attached
  refine .single ?_
  rw [ticked]
  exact .ticks

/-- A command that is no restart, frame arrival or end of a read moves the stores by a run of changes that leaves no
answer owed. -/
theorem exec_deals {c : Instr} (arrival : ∀ bytes, c ≠ .frameArrival bytes) (read : ∀ n, c ≠ .readEnd n)
    (restart : c ≠ .restart) (assert : c ≠ .resetAssert) (release : c ≠ .resetRelease) (on : c ≠ .powerOn)
    (loss : c ≠ .powerLoss) (next : exec c s = .next t) : s.Deals 0 t 0 := by
  cases c with
  | frameArrival bytes => exact absurd rfl (arrival bytes)
  | readEnd n => exact absurd rfl (read n)
  | restart | resetAssert | resetRelease | powerOn | powerLoss => contradiction
  | readLeadByte => exact act_deals (fun u => .of_eq (u.beginTransaction_stores readLead)) next
  | hello => exact act_takeRequest_deals takeHello_deals next
  | status => exact act_takeRequest_deals takeStatus_deals next
  | unknownKind => exact act_deals State.takeUnknown_deals next
  | rootLoad => exact act_takeRequest_deals takeRootLoad_deals next
  | rootErase => exact act_takeRequest_deals takeRootErase_deals next
  | rootRead => exact act_takeRequest_deals takeRootRead_deals next
  | attach => exact act_takeRequest_deals takeAttach_deals next
  | detach =>
    exact act_takeRequest_deals (fun r u => onAttached_deals r u fun _ _ entry =>
      (State.detachLink_deals entry).trans (State.reply_deals _ r _ _)) next
  | policy => exact act_takeRequest_deals takePolicy_deals next
  | linkRead => exact act_takeRequest_deals takeLinkRead_deals next
  | keyRead => exact act_takeRequest_deals (fun r u => onAttached_deals r u fun _ _ _ => u.reply_deals r _ _) next
  | renew => exact act_takeRequest_deals takeRenew_deals next
  | encipher => exact act_takeRequest_deals takeEncipher_deals next
  | decipher => exact act_takeRequest_deals takeDecipher_deals next
  | faultRead => exact act_takeRequest_deals (fun r u => onAttached_deals r u fun _ _ _ => u.reply_deals r _ _) next
  | faultClear => exact act_takeRequest_deals takeFaultClear_deals next
  | faultEnable => exact act_takeRequest_deals takeFaultEnable_deals next
  | counterSet => exact act_takeRequest_deals takeCounterSet_deals next
  | noticeMode => exact act_takeRequest_deals takeNoticeMode_deals next
  | logRead => exact act_takeRequest_deals takeLogRead_deals next
  | tick => exact act_deals State.tick_deals next
  | graceExpiry l =>
    have erased : ∀ u : State, (u.expireGrace l).stores = u.stores := by
      intro u
      unfold State.expireGrace
      split <;> rfl
    exact act_deals (fun u => .of_eq (erased u)) next
  | offerTimerExpiry l => exact act_freed (·.expireOffer_shifts l) next
  | askTimerExpiry l => exact act_freed (·.expireAsk_shifts l) next
  | restTimerExpiry l => exact act_freed (·.expireRest_shifts l) next
  | renewalTimerExpiry l => exact act_freed (·.expireRenewal_shifts l) next
  | silenceExpiry l => exact act_freed (·.expireSilence_shifts l) next
  | beatExpiry l => exact act_freed (·.expireBeat_shifts l) next
  | preparingOfferRequest l => exact act_freed (·.takePreparing_shifts l) next
  | askingAskRequest l => exact act_freed (·.takeAsking_shifts l) next
  | retryOwedRequest l => exact act_freed (·.takeRetry_shifts l) next
  | confirmBeatRequest l => exact act_freed (·.takeConfirm_shifts l) next
  | grant lane => exact act_deals (·.grant_deals lane) next
  | encipherCompletion lane => exact act_deals (·.completeEncipher_deals lane) next
  | trafficDecipherCompletion lane => exact act_deals (·.completeTraffic_deals lane) next
  | rootDecipherCompletion lane => exact act_deals (·.completeRoot_deals lane) next
  | controlJobCompletion lane => exact act_deals (·.completeControl_deals lane) next
  | nvWriteStart => exact act_deals (·.startWrite_deals) next
  | nvWriteCompletion =>
    refine act_deals (fun u => ?_) next
    unfold State.completeWrite
    split
    · exact .refl u 0
    · next write => exact State.finishWrite_deals write

/-- The stores after a restart: empty, with the root entries set from their stored images (R86, R87, R167). -/
def Stores.restarted (x : Stores) : Stores := { State.reset.stores with roots := x.roots.each RootEntry.restarted }

/-- What the commands that are left do to the stores: a restart, an arrival that admits a request or counts an error,
and the end of a read that takes the head frame from the output (R160, R163, R166, R167). -/
inductive Turn (x : Stores) : Stores → Prop
  | restarts : Turn x x.restarted
  | admits (r) : x.requests.length < 16 → x.requestOwned < 32 → Turn x { x with requests := x.requests ++ [r] }
  | errs : Turn x { x with frameErrors := min (x.frameErrors + 1) maxHalf }
  | overruns : Turn x { x with overruns := min (x.overruns + 1) maxHalf }
  | reads (f rest) : x.output = f :: rest → Turn x { x with output := rest }

/-- One step from `s` to `t`: a run of changes that leaves no answer owed, or a turn of the part between two such
runs. -/
inductive State.Goes (s t : State) : Prop
  | deals : s.Deals 0 t 0 → State.Goes s t
  | turns (u v : State) : s.Deals 0 u 0 → Turn u.stores v.stores → v.Deals 0 t 0 → State.Goes s t

theorem State.Goes.of_eq (h : t.stores = s.stores) : s.Goes t := .deals (.of_eq h)

theorem State.Goes.turn (h : Turn s.stores t.stores) : s.Goes t := .turns s t (.refl s 0) h (.refl t 0)

theorem State.Goes.since (h : u.Goes t) (same : u.stores = s.stores) : s.Goes t := by
  cases h with
  | deals run => exact .deals (run.since same)
  | turns v w first turn last => exact .turns v w (first.since same) turn last

theorem State.restart_goes (s : State) (cause : RestartCause) : s.Goes (s.restart cause) :=
  .turns s.cutWrite _ s.cutWrite_deals .restarts (.refl _ 0)

theorem State.losePower_goes (s : State) : s.Goes s.losePower :=
  .turns s.cutWrite (s.cutWrite.wiped s.cause) s.cutWrite_deals .restarts (.of_eq rfl)

theorem State.endTransaction_goes (s : State) (bytes : List Byte) : s.Goes (s.endTransaction bytes) := by
  unfold State.endTransaction
  split
  · exact .of_eq rfl
  · split
    · split
      · exact .of_eq rfl
      · unfold State.judgeFrame
        split
        · exact .turn .errs
        · next r _ =>
          split
          · exact s.restart_goes .commanded
          · split
            · next ready =>
              obtain ⟨queue, slots⟩ := s.ready_iff.mp ready
              exact .turn (.admits r queue slots)
            · exact .turn .overruns
    · exact .of_eq rfl
    · exact .of_eq rfl

theorem State.endRead_goes (s : State) (shifted : Nat) : s.Goes (s.endRead shifted) := by
  have removed : ∀ u : State, u.Goes u.removeHead := by
    intro u
    unfold State.removeHead
    split
    · exact .of_eq rfl
    · next f rest output =>
      have read : Turn u.stores { u with output := rest }.stores := .reads f rest output
      split
      · exact .turns u _ (.refl u 0) read ((State.serveFreed_shifts _).deals 0)
      · exact .turn read
  unfold State.endRead
  split
  · exact .of_eq rfl
  · split
    · exact (removed _).since rfl
    · exact .of_eq rfl

theorem act_goes {f : State → State} (h : ∀ u, State.Goes u (f u)) (next : act f s = .next t) : s.Goes t := by
  obtain rfl := Host.Outcome.next.inj next
  split
  · exact h s
  · split
    · split
      · exact .of_eq rfl
      · exact (h _).since rfl
    · exact .of_eq rfl

theorem exec_goes {c : Instr} (next : exec c s = .next t) : s.Goes t := by
  cases c with
  | frameArrival bytes => exact act_goes (·.endTransaction_goes bytes) next
  | readEnd shifted => exact act_goes (·.endRead_goes shifted) next
  | restart => exact act_goes (·.restart_goes .commanded) next
  | resetAssert =>
    obtain rfl := Host.Outcome.next.inj next
    split
    · exact .deals (s.cutWrite_deals.trans (.of_eq rfl))
    · exact .of_eq rfl
  | resetRelease =>
    obtain rfl := Host.Outcome.next.inj next
    split
    · split
      · exact (State.restart_goes _ .pin).since rfl
      · exact .of_eq rfl
    · exact .of_eq rfl
  | powerOn =>
    obtain rfl := Host.Outcome.next.inj next
    exact (State.restart_goes _ .power).since rfl
  | powerLoss =>
    obtain rfl := Host.Outcome.next.inj next
    split
    · exact s.losePower_goes
    · exact .of_eq rfl
  | _ => exact .deals (exec_deals (by simp) (by simp) (by simp) (by simp) (by simp) (by simp) (by simp) next)

/-- What one step can do to the stores. -/
theorem step_goes (next : step s = .next t) : s.Goes t := by
  unfold step at next
  split at next
  · obtain rfl := Host.Outcome.next.inj next
    exact .of_eq rfl
  · exact (exec_goes next).since rfl

/-- A property of the stores is kept by a step when the runs and the turns keep it. -/
theorem State.Goes.keeps {p : Stores → Prop} (h : s.Goes t)
    (run : ∀ {u v : State}, u.Deals 0 v 0 → p u.stores → p v.stores) (turn : ∀ {x y}, Turn x y → p x → p y)
    (start : p s.stores) : p t.stores := by
  cases h with
  | deals all => exact run all start
  | turns u v first change last => exact run last (turn change (run first start))

/-- A property of the stores that every change keeps, a run keeps. -/
theorem State.Deals.keeps {p : Stores → Prop} (h : s.Deals n t m)
    (deal : ∀ {x y i k}, Deal (x, i) (y, k) → p x → p y) (start : p s.stores) : p t.stores := by
  have all : ∀ b, Relation.ReflTransGen Deal (s.stores, n) b → p b.1 := by
    intro b h
    induction h with
    | refl => exact start
    | tail _ last ih => exact deal last ih
  exact all _ h

end Sys2Proof.Machine
end

section
/-! PROOFS. No store passes its size, and a step keeps the request-owned slots in account: kept by every step (R52, R68,
R155, R160, R161, R162, R167). -/

namespace Sys2Proof.Machine

open Sys2Proof

variable {x y : Stores}

/-! ## Frames and jobs counted -/

theorem OutFrame.isUnsolicited_of_unsolicited {f : OutFrame} (h : f.share = .unsolicited) : f.isUnsolicited = true := by
  simp [OutFrame.isUnsolicited, h]

theorem OutFrame.isReply_of_unsolicited {f : OutFrame} (h : f.share = .unsolicited) : f.isReply = false := by
  simp [OutFrame.isReply, h]

theorem OutFrame.countP_replies {fs : List OutFrame} (h : ∀ f ∈ fs, f.share = .requestOwned) :
    fs.countP OutFrame.isReply = fs.length ∧ fs.countP OutFrame.isUnsolicited = 0 := by
  refine ⟨List.countP_eq_length.mpr fun f hf => ?_, List.countP_eq_zero.mpr fun f hf => ?_⟩
  · simp [OutFrame.isReply, h f hf]
  · simp [OutFrame.isUnsolicited, h f hf]

theorem Job.isControl_eq (j : Job) : j.isControl = !j.isHost := rfl

theorem Job.isHost_withClaim (j : Job) (c : CounterClaim) : (j.withClaim c).isHost = j.isHost := by
  rcases j with ⟨-, work, -⟩
  cases work <;> rfl

theorem Job.isHost_of_isControl {j : Job} (h : j.isControl = true) : j.isHost = false := by
  rw [Job.isControl_eq] at h
  simpa using h

/-- A job in the place of another of its sort leaves the counts of the pool. -/
theorem Job.counts_replaced {i j : Job} (same : i.isHost = j.isHost) (before after : List Job) :
    (before ++ i :: after).countP Job.isHost = (before ++ j :: after).countP Job.isHost ∧
    (before ++ i :: after).countP Job.isControl = (before ++ j :: after).countP Job.isControl ∧
    (before ++ i :: after).length = (before ++ j :: after).length := by
  simp [List.countP_cons, Job.isControl_eq, same]

/-- A control job that leaves the pool. -/
theorem Job.counts_dropped {j : Job} (control : j.isControl = true) (before after : List Job) :
    (before ++ j :: after).countP Job.isHost = (before ++ after).countP Job.isHost ∧
    (before ++ j :: after).countP Job.isControl = (before ++ after).countP Job.isControl + 1 ∧
    (before ++ j :: after).length = (before ++ after).length + 1 := by
  simp [control, Job.isHost_of_isControl control]
  omega

/-! ## The request-owned slots in account (R161, R162) -/

theorem Shift.requestOwned (h : Shift x y) : y.requestOwned = x.requestOwned := by
  cases h with
  | notice f share _ => simp [Stores.requestOwned, OutFrame.isReply_of_unsolicited share]
  | accepts l work control _ _ _ => simp [Stores.requestOwned, waitingJob, Job.isHost, control]
  | drops before j after pool _ control =>
    simp only [Stores.requestOwned, pool, (Job.counts_dropped control before after).1]
  | claims before j after e c d pool _ _ _ _ =>
    simp only [Stores.requestOwned, pool, (Job.counts_replaced (j.isHost_withClaim d) before after).1]
  | logs | loses | raises | again | joins => rfl

theorem RootEvent.requestOwned (h : RootEvent x y) : y.requestOwned = x.requestOwned := by
  cases h <;> rfl

/-- A change moves as many request-owned slots as the answers it leaves owed or settles. -/
theorem Deal.account {n m : Nat} (h : Deal (x, n) (y, m)) : y.requestOwned + m = x.requestOwned + n := by
  cases h with
  | shift h => rw [h.requestOwned]
  | root h => rw [h.requestOwned]
  | takes r rest requests => simp only [Stores.requestOwned, requests, List.length_cons]; omega
  | replies fs share =>
    simp only [Stores.requestOwned, List.countP_append, (OutFrame.countP_replies share).1]; omega
  | waits p => simp only [Stores.requestOwned, List.length_append, List.length_singleton]; omega
  | due ps k count => simp only [Stores.requestOwned]; omega
  | hosts j host _ _ => simp [Stores.requestOwned, host]; omega
  | leave jobs k _ count => simp only [Stores.requestOwned]; omega
  | emits before j after f pool control share =>
    simp [Stores.requestOwned, pool, OutFrame.isReply_of_unsolicited share, Job.isHost_of_isControl control]
  | state before j after st pool =>
    simp only [Stores.requestOwned, pool,
      (Job.counts_replaced (i := { j with state := st }) (j := j) rfl before after).1]
  | grants before j after e pool _ _ =>
    simp only [Stores.requestOwned, pool, (Job.counts_replaced (j.isHost_withClaim _) before after).1]
  | drains | ticks => rfl

/-- A run that leaves no answer owed keeps the number of request-owned slots in use. -/
theorem State.Deals.requestOwned {s t : State} {n m : Nat} (h : s.Deals n t m) :
    t.requestOwnedInUse + m = s.requestOwnedInUse + n := by
  have all : ∀ b, Relation.ReflTransGen Deal (s.stores, n) b → b.1.requestOwned + b.2 = s.stores.requestOwned + n := by
    intro b h
    induction h with
    | refl => rfl
    | tail _ last ih => exact last.account.trans ih
  exact all _ h

/-- Settles O60: such a command leaves no answer owed. -/
theorem requestsKeptInAccount : Obligations.RequestsKeptInAccount := by
  unfold Obligations.RequestsKeptInAccount
  intro s t c rest pending arrival read restart assert release on loss next
  unfold step at next
  rw [pending] at next
  exact (exec_deals arrival read restart assert release on loss next).requestOwned

/-! ## The sizes (R52, R155, R160, R161, R162, R167) -/

/-- No store but the request-owned slots passes its size. -/
structure Stores.Fits (x : Stores) : Prop where
  requests : x.requests.length ≤ 16
  pool : x.pool.length ≤ 32
  hostJobs : x.pool.countP Job.isHost ≤ 28
  unsolicited : x.unsolicited ≤ 16
  log : x.log.length ≤ 32
  lost : x.lost ≤ 65535
  frameErrors : x.frameErrors ≤ 65535
  overruns : x.overruns ≤ 65535
  tickCount : x.tickCount < 4294967296

theorem State.withinSizes_iff {s : State} : s.WithinSizes ↔ s.stores.Fits ∧ s.stores.requestOwned ≤ 32 := by
  constructor
  · rintro ⟨requests, pool, hosts, owned, unsolicited, log, lost, errors, overruns, ticks⟩
    exact ⟨⟨requests, pool, hosts, unsolicited, log, lost, errors, overruns, ticks⟩, owned⟩
  · rintro ⟨⟨requests, pool, hosts, unsolicited, log, lost, errors, overruns, ticks⟩, owned⟩
    exact ⟨requests, pool, hosts, owned, unsolicited, log, lost, errors, overruns, ticks⟩

/-- The pool and the output have moved, and what they hold still fits. -/
theorem Stores.Fits.moved (h : x.Fits) {jobs : List Job} {frames : List OutFrame} (pool : jobs.length ≤ 32)
    (hosts : jobs.countP Job.isHost ≤ 28)
    (unsolicited : frames.countP OutFrame.isUnsolicited + jobs.countP Job.isControl ≤ 16) :
    Stores.Fits { x with pool := jobs, output := frames } :=
  ⟨h.requests, pool, hosts, unsolicited, h.log, h.lost, h.frameErrors, h.overruns, h.tickCount⟩

theorem Shift.fits (h : Shift x y) (fits : x.Fits) : y.Fits := by
  have slots := fits.unsolicited
  have pool := fits.pool
  have hosts := fits.hostJobs
  unfold Stores.unsolicited at slots
  cases h with
  | notice f share free =>
    refine fits.moved pool hosts ?_
    unfold Stores.unsolicited at free
    simp [OutFrame.isUnsolicited_of_unsolicited share]
    omega
  | accepts l work control room free _ =>
    unfold Stores.unsolicited at free
    refine fits.moved ?_ ?_ ?_ <;> simp [waitingJob, Job.isHost, Job.isControl, control] <;> omega
  | drops before j after jobs _ control =>
    obtain ⟨host, controls, length⟩ := Job.counts_dropped control before after
    rw [jobs] at pool hosts slots
    exact fits.moved (by omega) (by omega) (by omega)
  | claims before j after e c d jobs _ _ _ _ =>
    obtain ⟨host, controls, length⟩ := Job.counts_replaced (j.isHost_withClaim d) before after
    rw [jobs] at pool hosts slots
    exact fits.moved (by omega) (by omega) (by omega)
  | logs e room => exact { fits with log := by simpa using room }
  | loses => exact { fits with lost := Nat.min_le_right _ _ }
  | raises | again | joins => exact { fits with }

theorem RootEvent.fits (h : RootEvent x y) (fits : x.Fits) : y.Fits := by
  cases h <;> exact { fits with }

theorem Deal.fits {n m : Nat} (h : Deal (x, n) (y, m)) (fits : x.Fits) : y.Fits := by
  have slots := fits.unsolicited
  have pool := fits.pool
  have hosts := fits.hostJobs
  unfold Stores.unsolicited at slots
  cases h with
  | shift h => exact h.fits fits
  | root h => exact h.fits fits
  | takes r rest requests =>
    have queue := fits.requests
    rw [requests, List.length_cons] at queue
    exact { fits with requests := by dsimp only; omega }
  | replies fs share =>
    refine fits.moved pool hosts ?_
    rw [List.countP_append, (OutFrame.countP_replies share).2]
    exact slots
  | hosts j host jobs room => refine fits.moved ?_ ?_ ?_ <;> simp [host, Job.isControl_eq] <;> omega
  | leave jobs k fewer _ =>
    have length := fewer.length_le
    have host := fewer.countP_le (p := Job.isHost)
    have controls := fewer.countP_le (p := Job.isControl)
    exact fits.moved (by omega) (by omega) (by omega)
  | emits before j after f jobs control share =>
    obtain ⟨host, controls, length⟩ := Job.counts_dropped control before after
    rw [jobs] at pool hosts slots
    refine fits.moved (by omega) (by omega) ?_
    rw [List.countP_append, List.countP_singleton, if_pos (OutFrame.isUnsolicited_of_unsolicited share)]
    omega
  | state before j after st jobs =>
    obtain ⟨host, controls, length⟩ := Job.counts_replaced (i := { j with state := st }) (j := j) rfl before after
    rw [jobs] at pool hosts slots
    exact fits.moved (by omega) (by omega) (by omega)
  | grants before j after e jobs _ _ =>
    obtain ⟨host, controls, length⟩ :=
      Job.counts_replaced (j.isHost_withClaim (.taken ((x.root e).outCounter + 1))) before after
    rw [jobs] at pool hosts slots
    have moved := fits.moved (x := x) (jobs := before ++ j.withClaim (.taken ((x.root e).outCounter + 1)) :: after)
      (frames := x.output) (by omega) (by omega) (by omega)
    exact { moved with }
  | waits | due => exact { fits with }
  | drains k => exact { fits with log := by simpa using (Nat.sub_le _ _).trans fits.log, lost := Nat.zero_le _ }
  | ticks => exact { fits with tickCount := Nat.mod_lt _ (by omega) }

theorem Turn.sizes (h : Turn x y) (sizes : x.Fits ∧ x.requestOwned ≤ 32) : y.Fits ∧ y.requestOwned ≤ 32 := by
  obtain ⟨fits, owned⟩ := sizes
  cases h with
  | restarts =>
    obtain ⟨reset, -⟩ := resetIsSound
    obtain ⟨fits, owned⟩ := State.withinSizes_iff.mp reset
    exact ⟨{ fits with }, owned⟩
  | admits r queue slots =>
    refine ⟨{ fits with requests := by simpa using queue }, ?_⟩
    simp only [Stores.requestOwned, List.length_append, List.length_singleton] at slots ⊢
    omega
  | errs => exact ⟨{ fits with frameErrors := Nat.min_le_right _ _ }, owned⟩
  | overruns => exact ⟨{ fits with overruns := Nat.min_le_right _ _ }, owned⟩
  | reads f rest output =>
    have slots := fits.unsolicited
    have fewer := List.sublist_cons_self f rest
    have frames := fewer.countP_le (p := OutFrame.isUnsolicited)
    have replies := fewer.countP_le (p := OutFrame.isReply)
    simp only [Stores.unsolicited, Stores.requestOwned, output] at slots owned ⊢
    exact ⟨fits.moved fits.pool fits.hostJobs (by omega), by omega⟩

/-- Settles O51: every change keeps the sizes, and the request-owned slots stay in account. -/
theorem stepKeepsSizes : Obligations.StepKeepsSizes := by
  unfold Obligations.StepKeepsSizes
  intro s t sizes next
  refine State.withinSizes_iff.mpr ((step_goes next).keeps (p := fun x => x.Fits ∧ x.requestOwned ≤ 32) ?_ Turn.sizes
    (State.withinSizes_iff.mp sizes))
  rintro u v run ⟨fits, owned⟩
  exact ⟨run.keeps Deal.fits fits, by rw [State.stores_requestOwned] at owned ⊢; have := run.requestOwned; omega⟩

end Sys2Proof.Machine
end

section
/-! PROOFS. The root counters stay ordered, and only the first job of a list has asked of them: kept by every step (R30,
R56, R72, R74, R79, R84). -/

namespace Sys2Proof.Machine

open Sys2Proof

variable {x y : Stores} {l m : Link}

/-! ## The jobs of a link -/

/-- What the jobs of a link are to do, in acceptance order (R55). -/
def Stores.works (x : Stores) (l : Link) : List Work := (x.pool.filter fun j => decide (j.link = l)).map Job.work

theorem Stores.works_append (x : Stores) (j : Job) (l : Link) : { x with pool := x.pool ++ [j] }.works l =
    x.works l ++ if j.link = l then [j.work] else [] := by
  by_cases h : j.link = l <;> simp [Stores.works, h]

theorem Stores.works_sublist {jobs : List Job} (fewer : jobs.Sublist x.pool) (l : Link) :
    List.Sublist ({ x with pool := jobs }.works l) (x.works l) :=
  (fewer.filter _).map _

theorem Stores.works_dropped {before after : List Job} {j : Job} (pool : x.pool = before ++ j :: after) (l : Link) :
    List.Sublist ({ x with pool := before ++ after }.works l) (x.works l) :=
  Stores.works_sublist (pool ▸ (List.sublist_cons_self j after).append_left before) l

section Replaced

variable {before after : List Job} {i j : Job} (pool : x.pool = before ++ j :: after) (link : i.link = j.link)

include pool link

/-- A job changed in its place leaves the other links' lists. -/
theorem Stores.works_replaced_ne (other : l ≠ j.link) :
    { x with pool := before ++ i :: after }.works l = x.works l := by
  simp [Stores.works, pool, link, Ne.symm other]

/-- A job that is to do the same leaves every list. -/
theorem Stores.works_replaced_same (work : i.work = j.work) (l : Link) :
    { x with pool := before ++ i :: after }.works l = x.works l := by
  by_cases h : j.link = l <;> simp [Stores.works, pool, link, work, h]

/-- The first job of a list changed in its place. -/
theorem Stores.works_replaced_first (first : ∀ k ∈ before, k.link ≠ j.link) : ∃ rest,
    x.works j.link = j.work :: rest ∧ { x with pool := before ++ i :: after }.works j.link = i.work :: rest := by
  have none : before.filter (fun k => decide (k.link = j.link)) = [] :=
    List.filter_eq_nil_iff.mpr fun k hk => by simpa using first k hk
  exact ⟨(after.filter fun k => decide (k.link = j.link)).map Job.work, by simp [Stores.works, pool, none],
    by simp [Stores.works, link, none]⟩

end Replaced

/-! ## The claims of a link's jobs (R30, R56, R79) -/

theorem Work.claim_withClaim {w : Work} {e : EntryNo} {c : CounterClaim} (h : w.claim = some (e, c))
    (d : CounterClaim) : (w.withClaim d).claim = some (e, d) := by
  cases w <;> cases h <;> rfl

theorem Work.claim_of_isHost {w : Work} (h : w.isHost = true) : w.claim = none := by
  cases w with
  | encipher | decipherTraffic | decipherRoot => rfl
  | beat | proof | offer | ask => cases h

/-- The outbound root jobs of a link ask of an entry bound to it, only the first of them has asked, and a ready
first one has its L + 1 at most S. -/
structure ClaimsSound (roots : Table RootEntry) (l : Link) (ws : List Work) : Prop where
  bound : ∀ w ∈ ws, ∀ e c, w.claim = some (e, c) → (roots.look e).bound = some l
  unasked : ∀ w ∈ ws.tail, ∀ e c, w.claim = some (e, c) → c = .unasked
  ready : ∀ w e, ws.head? = some w → w.claim = some (e, .ready) →
    (roots.look e).outCounter + 1 ≤ (roots.look e).stored.ceiling

section Claims

variable {roots : Table RootEntry} {w : Work} {ws vs : List Work}

theorem ClaimsSound.nil : ClaimsSound roots l [] := ⟨by simp, by simp, by simp⟩

theorem ClaimsSound.append (h : ClaimsSound roots l ws)
    (claim : ∀ e c, w.claim = some (e, c) → c = .unasked ∧ (roots.look e).bound = some l) :
    ClaimsSound roots l (ws ++ [w]) := by
  refine ⟨fun v hv e c hc => ?_, fun v hv e c hc => ?_, fun v e head hc => ?_⟩
  · rcases List.mem_append.mp hv with old | new
    · exact h.bound v old e c hc
    · rw [List.mem_singleton.mp new] at hc
      exact (claim e c hc).2
  · cases ws with
    | nil => simp at hv
    | cons first rest =>
      rcases List.mem_append.mp hv with old | new
      · exact h.unasked v old e c hc
      · rw [List.mem_singleton.mp new] at hc
        exact (claim e c hc).1
  · cases ws with
    | nil =>
      obtain rfl : w = v := by simpa using head
      cases (claim e _ hc).1
    | cons first rest => exact h.ready v e (by simpa using head) hc

theorem ClaimsSound.sublist (h : ClaimsSound roots l ws) (fewer : List.Sublist vs ws) : ClaimsSound roots l vs := by
  refine ⟨fun v hv => h.bound v (fewer.subset hv), fun v hv => h.unasked v (fewer.tail.subset hv),
    fun v e head hc => ?_⟩
  have member : v ∈ ws := fewer.subset (List.mem_of_mem_head? head)
  cases ws with
  | nil => simp at member
  | cons first rest =>
    rcases List.mem_cons.mp member with rfl | later
    · exact h.ready v e rfl hc
    · cases h.unasked v later e _ hc

/-- The claim of a first job moves on; one that becomes ready has its counter below S. -/
theorem ClaimsSound.replaced (h : ClaimsSound roots l (w :: ws)) {e : EntryNo} {c d : CounterClaim}
    (claim : w.claim = some (e, c))
    (ready : d = .ready → (roots.look e).outCounter + 1 ≤ (roots.look e).stored.ceiling) :
    ClaimsSound roots l (w.withClaim d :: ws) := by
  have changed := Work.claim_withClaim claim d
  refine ⟨fun v hv n k hk => ?_, h.unasked, fun v n head hk => ?_⟩
  · rcases List.mem_cons.mp hv with rfl | later
    · rw [changed] at hk
      cases hk
      exact h.bound w List.mem_cons_self e c claim
    · exact h.bound v (List.mem_cons_of_mem w later) n k hk
  · obtain rfl : w.withClaim d = v := by simpa using head
    rw [changed] at hk
    cases hk
    exact ready rfl

/-- The root entries have moved, and those bound to the link keep it and what a ready job needs. -/
theorem ClaimsSound.rootsMoved (h : ClaimsSound roots l ws) {roots' : Table RootEntry}
    (kept : ∀ e, (roots.look e).bound = some l → (roots'.look e).bound = some l ∧
      ∀ w, ws.head? = some w → w.claim = some (e, .ready) →
        (roots.look e).outCounter + 1 ≤ (roots.look e).stored.ceiling →
        (roots'.look e).outCounter + 1 ≤ (roots'.look e).stored.ceiling) : ClaimsSound roots' l ws where
  bound w hw e c hc := (kept e (h.bound w hw e c hc)).1
  unasked := h.unasked
  ready w e head hc :=
    (kept e (h.bound w (List.mem_of_mem_head? head) e _ hc)).2 w head hc (h.ready w e head hc)

end Claims

/-! ## The order of the root store -/

/-- The root counters are ordered, the write in progress carries a ceiling in that order of the entry at the queue's
head, the queue holds an entry once, a bound entry is occupied and bound to the link attached to it, and the claims of
every link's jobs are sound (R56, R72, R74, R79, R84). -/
structure RootOrder (roots : Table RootEntry) (queue : List EntryNo) (write : Option NvWrite)
    (attached : Link → Option EntryNo) (works : Link → List Work) : Prop where
  sound : ∀ e, (roots.look e).Sound
  write : ∀ w, write = some w → (roots.look w.entry).stored.ceiling ≤ w.image.ceiling ∧
    w.image.ceiling ≤ (roots.look w.entry).ceiling ∧ queue.head? = some w.entry
  queue : queue.Nodup
  occupied : ∀ e, (roots.look e).bound.isSome = true → (roots.look e).contents.isSome = true
  attached : ∀ l e, attached l = some e ↔ (roots.look e).bound = some l
  claims : ∀ l, ClaimsSound roots l (works l)

/-- The root store of these stores is in order. -/
def Stores.Rooted (x : Stores) : Prop := RootOrder x.roots x.nvQueue x.nvWrite x.attached x.works

section Order

variable {roots : Table RootEntry} {queue : List EntryNo} {write : Option NvWrite} {attached : Link → Option EntryNo}
  {works : Link → List Work} (h : RootOrder roots queue write attached works)

include h

/-- Two entries bound to one link are one (R74). -/
theorem RootOrder.bound_unique {e n : EntryNo} (he : (roots.look e).bound = some l)
    (hn : (roots.look n).bound = some l) : e = n :=
  Option.some.inj (((h.attached l e).mpr he).symm.trans ((h.attached l n).mpr hn))

/-- The ceiling that a write in progress of an entry carries (R84). -/
theorem RootOrder.written {e : EntryNo} (w : NvWrite) (hw : write = some w) (entry : w.entry = e) :
    (roots.look e).stored.ceiling ≤ w.image.ceiling ∧ w.image.ceiling ≤ (roots.look e).ceiling := by
  subst entry
  obtain ⟨low, high, -⟩ := h.write w hw
  exact ⟨low, high⟩

theorem RootOrder.jobs {works' : Link → List Work} (claims : ∀ l, ClaimsSound roots l (works' l)) :
    RootOrder roots queue write attached works' :=
  { h with claims := claims }

theorem RootOrder.fewer {works' : Link → List Work} (fewer : ∀ l, List.Sublist (works' l) (works l)) :
    RootOrder roots queue write attached works' :=
  h.jobs fun l => (h.claims l).sublist (fewer l)

/-- A root entry changes its counters, and one that is not bound its contents. -/
theorem RootOrder.put {e : EntryNo} {r : RootEntry} (sound : r.Sound)
    (written : ∀ w, write = some w → w.entry = e → r.stored.ceiling ≤ w.image.ceiling ∧ w.image.ceiling ≤ r.ceiling)
    (bound : r.bound = (roots.look e).bound) (occupied : r.bound.isSome = true → r.contents.isSome = true)
    (ready : ∀ l w, (roots.look e).bound = some l → (works l).head? = some w → w.claim = some (e, .ready) →
      (roots.look e).outCounter + 1 ≤ (roots.look e).stored.ceiling → r.outCounter + 1 ≤ r.stored.ceiling) :
    RootOrder (roots.put e r) queue write attached works where
  sound n := by
    rw [Table.look_put]
    split
    · exact sound
    · exact h.sound n
  write w hw := by
    obtain ⟨low, high, head⟩ := h.write w hw
    rw [Table.look_put]
    split
    · next same => exact ⟨(written w hw same).1, (written w hw same).2, head⟩
    · exact ⟨low, high, head⟩
  queue := h.queue
  occupied n := by
    rw [Table.look_put]
    split
    · exact occupied
    · exact h.occupied n
  attached l n := by
    rw [Table.look_put]
    split
    · next same => rw [bound, ← same]; exact h.attached l n
    · exact h.attached l n
  claims l := by
    refine (h.claims l).rootsMoved fun n hn => ?_
    rw [Table.look_put]
    split
    · next same =>
      subst same
      exact ⟨bound.trans hn, fun w head claim => ready l w hn head claim⟩
    · exact ⟨hn, fun _ _ _ => id⟩

/-- A root entry is bound or unbound, and a link attached or detached with it (R74). -/
theorem RootOrder.rebound {e : EntryNo} (b : Option Link) {attached' : Link → Option EntryNo}
    (occupied : b.isSome = true → (roots.look e).contents.isSome = true)
    (agree : ∀ l n, attached' l = some n ↔ (if n = e then b else (roots.look n).bound) = some l)
    (claims : ∀ l, ClaimsSound (roots.put e { roots.look e with bound := b }) l (works l)) :
    RootOrder (roots.put e { roots.look e with bound := b }) queue write attached' works where
  sound n := by
    rw [Table.look_put]
    split
    · exact h.sound e
    · exact h.sound n
  write w hw := by
    rw [Table.look_put]
    split
    · next same => exact same ▸ h.write w hw
    · exact h.write w hw
  queue := h.queue
  occupied n := by
    rw [Table.look_put]
    split
    · exact occupied
    · exact h.occupied n
  attached l n := by
    rw [agree, Table.look_put]
    split <;> rfl
  claims := claims

/-- A write in progress lands or is cut with the new image (R85, R86). -/
theorem RootOrder.landed {w : NvWrite} (hw : write = some w) :
    RootOrder (roots.put w.entry { roots.look w.entry with stored := w.image }) queue none attached works := by
  obtain ⟨low, high, -⟩ := h.write w hw
  obtain ⟨out, -, top⟩ := h.sound w.entry
  have put := h.put (e := w.entry) (r := { roots.look w.entry with stored := w.image })
    ⟨out.trans low, high, top⟩ (fun v hv _ => by obtain rfl := Option.some.inj (hw.symm.trans hv); exact ⟨le_rfl, high⟩)
    rfl (h.occupied w.entry) (fun _ _ _ _ _ counter => counter.trans low)
  exact { put with write := nofun }

end Order

/-! ## The order is kept -/

theorem Shift.rooted (h : Shift x y) (order : x.Rooted) : y.Rooted := by
  cases h with
  | notice | logs | loses => exact order
  | accepts l work _ _ _ claim =>
    refine order.jobs fun m => ?_
    have old := order.claims m
    rw [Stores.works_append]
    split
    · next same =>
      obtain rfl : l = m := same
      exact old.append fun e c hc => ⟨(claim e c hc).1, (order.attached l e).mp (claim e c hc).2⟩
    · simpa using old
  | drops before j after pool _ _ => exact order.fewer (Stores.works_dropped pool)
  | claims before j after e c d pool first _ claim ready =>
    refine order.jobs fun m => ?_
    by_cases same : m = j.link
    · subst same
      obtain ⟨rest, old, new⟩ := Stores.works_replaced_first pool (j.withClaim_link d) first
      have sound := order.claims j.link
      rw [old] at sound
      rw [new]
      have bound := sound.bound j.work List.mem_cons_self e c claim
      refine sound.replaced claim fun hd => ?_
      obtain ⟨n, which, counter⟩ := ready hd
      obtain rfl : n = e := which.elim id fun hn => order.bound_unique hn bound
      exact counter
    · rw [Stores.works_replaced_ne pool (j.withClaim_link d) same]
      exact order.claims m
  | raises e low =>
    obtain ⟨out, stored, top⟩ := order.sound e
    refine order.put ⟨out, ?_, Nat.min_le_right _ _⟩ (fun w hw same => ?_) rfl (order.occupied e) fun _ _ _ _ _ => id
    · dsimp only [Stores.root] at low ⊢
      omega
    · obtain ⟨least, most, -⟩ := order.write w hw
      subst same
      dsimp only [Stores.root] at low ⊢
      omega
  | again w write =>
    refine { order with write := fun v hv => ?_ }
    cases hv
    exact order.write w write
  | joins e new =>
    refine { order with write := fun w hw => ?_, queue := ?_ }
    · obtain ⟨low, high, head⟩ := order.write w hw
      exact ⟨low, high, by rw [List.head?_append, head]; rfl⟩
    · exact List.nodup_append.mpr ⟨order.queue, List.nodup_singleton e, fun a ha b hb => by
        rintro rfl
        exact new (List.mem_singleton.mp hb ▸ ha)⟩

theorem RootEvent.rooted (h : RootEvent x y) (order : x.Rooted) : y.Rooted := by
  cases h with
  | counts e n =>
    exact order.put (order.sound e) order.written
      rfl (order.occupied e) fun _ _ _ _ _ => id
  | loads e c n empty =>
    obtain ⟨-, stored, top⟩ := order.sound e
    have unbound : ¬ (x.root e).bound.isSome = true := fun b => by simpa [empty] using order.occupied e b
    exact order.put ⟨le_rfl, stored, top⟩
      order.written
      rfl (fun _ => rfl) fun l _ bound => absurd (Option.isSome_iff_exists.mpr ⟨l, bound⟩) unbound
  | erases e unbound =>
    exact order.put (order.sound e)
      order.written
      rfl (fun b => by simp [unbound] at b) fun _ _ _ _ _ => id
  | binds l e closed occupied unbound =>
    refine order.rebound (some l) (fun _ => occupied) (fun m n => ?_) fun m =>
      (order.claims m).rootsMoved fun n hn => ?_
    · dsimp only [Stores.setRoot]
      rw [Function.update_apply]
      have agree := order.attached m n
      split
      · next same =>
        rw [same, closed] at agree
        split
        · next entry => simp [same, entry]
        · next other => exact ⟨fun h => absurd (Option.some.inj h).symm other, fun h => nomatch agree.mpr (same ▸ h)⟩
      · next other =>
        split
        · next entry =>
          rw [entry] at agree ⊢
          exact ⟨fun h => (by simpa [unbound] using agree.mp h), fun h => absurd (Option.some.inj h).symm other⟩
        · exact agree
    · rw [Table.look_put_ne _ _ _ _ (by rintro rfl; simp [unbound] at hn)]
      exact ⟨hn, fun _ _ _ => id⟩
  | unbinds l e attached gone =>
    have bound := (order.attached l e).mp attached
    refine order.rebound none nofun (fun m n => ?_) fun m => ?_
    · dsimp only [Stores.setRoot]
      rw [Function.update_apply]
      have agree := order.attached m n
      split
      · next same =>
        split
        · exact iff_of_false nofun nofun
        · next other => exact ⟨nofun, fun h => absurd (order.bound_unique (same ▸ h) bound) other⟩
      · next other =>
        split
        · next entry =>
          rw [entry] at agree ⊢
          exact ⟨fun h => absurd (Option.some.inj ((agree.mp h).symm.trans bound)) other, nofun⟩
        · exact agree
    · by_cases same : m = l
      · subst same
        have none : x.works m = [] := by
          simpa [Stores.works, List.filter_eq_nil_iff] using gone
        exact none ▸ .nil
      · refine (order.claims m).rootsMoved fun n hn => ?_
        rw [Table.look_put_ne _ _ _ _ (by rintro rfl; exact same (Option.some.inj (hn.symm.trans bound)))]
        exact ⟨hn, fun _ _ _ => id⟩
  | starts e queue free head =>
    obtain ⟨-, stored, -⟩ := order.sound e
    refine { order with write := fun w hw => ?_ }
    cases hw
    exact ⟨stored, le_rfl, by simp [head]⟩
  | lands w write =>
    obtain ⟨-, -, head⟩ := order.write w write
    refine { order.landed write with write := nofun, queue := ?_ }
    obtain ⟨rest, queue⟩ := List.head?_eq_some_iff.mp head
    have once := order.queue
    rw [queue, List.nodup_cons] at once
    rw [queue, List.tail_cons]
    split
    · exact List.nodup_append.mpr ⟨once.2, List.nodup_singleton _, fun a ha b hb => by
        rintro rfl
        exact once.1 (List.mem_singleton.mp hb ▸ ha)⟩
    · simpa using once.2
  | cuts => exact { order with write := nofun }
  | cutsNew w write => exact order.landed write

theorem Deal.rooted {n m : Nat} (h : Deal (x, n) (y, m)) (order : x.Rooted) : y.Rooted := by
  cases h with
  | shift h => exact h.rooted order
  | root h => exact h.rooted order
  | takes | replies | waits | due | drains | ticks => exact order
  | hosts j host _ _ =>
    refine order.jobs fun m => ?_
    have old := order.claims m
    rw [Stores.works_append]
    split
    · exact old.append fun e c hc => by simp [Work.claim_of_isHost host] at hc
    · simpa using old
  | leave jobs k fewer _ => exact order.fewer (Stores.works_sublist fewer)
  | emits before j after f pool _ _ => exact order.fewer (Stores.works_dropped pool)
  | state before j after st pool =>
    exact order.fewer fun l => by
      rw [Stores.works_replaced_same (i := { j with state := st }) pool rfl rfl l]
  | grants before j after e pool first claim =>
    obtain ⟨rest, old, new⟩ :=
      Stores.works_replaced_first pool (j.withClaim_link (.taken ((x.root e).outCounter + 1))) first
    have sound := order.claims j.link
    rw [old] at sound
    have bound := sound.bound j.work List.mem_cons_self e _ claim
    have counter := sound.ready j.work e rfl claim
    have moved : { x with pool := before ++ j.withClaim (.taken ((x.root e).outCounter + 1)) :: after }.Rooted := by
      refine order.jobs fun m => ?_
      by_cases same : m = j.link
      · rw [same, new]
        exact sound.replaced claim nofun
      · rw [Stores.works_replaced_ne pool (j.withClaim_link _) same]
        exact order.claims m
    obtain ⟨-, stored, top⟩ := order.sound e
    refine moved.put ⟨counter, stored, top⟩
      order.written rfl (order.occupied e) ?_
    intro l w bound' head ready
    obtain rfl := Option.some.inj (bound.symm.trans bound')
    rw [new] at head
    obtain rfl := Option.some.inj head
    cases (Work.claim_withClaim claim _).symm.trans ready

theorem Turn.rooted (h : Turn x y) (order : x.Rooted) : y.Rooted := by
  cases h with
  | restarts =>
    refine ⟨fun e => ?_, nofun, List.nodup_nil, fun e => by simp [Stores.restarted, RootEntry.restarted],
      fun l e => ?_, fun l => .nil⟩
    · obtain ⟨-, stored, top⟩ := order.sound e
      simp only [Stores.restarted, Table.look_each]
      exact ⟨le_rfl, le_rfl, stored.trans top⟩
    · simp [Stores.restarted, RootEntry.restarted, State.stores]
  | admits | errs | overruns | reads => exact order

/-- The jobs of a list, by what they are to do. -/
theorem State.works_jobList (s : State) (l : Link) : s.stores.works l = (s.jobList l).map Job.work := rfl

theorem State.firstJob_eq_head (s : State) (l : Link) : s.firstJob l = (s.jobList l).head? := by
  rw [State.firstJob, State.jobList, List.head?_filter]

theorem State.RootsSound.rooted {s : State} (bindings : s.BindingsSound) (h : s.RootsSound) : s.stores.Rooted := by
  obtain ⟨sound, write, queue, occupied, bound, unasked, ready⟩ := h
  refine ⟨sound, write, queue, occupied, fun l e => ?_, fun l => ⟨fun w hw e c hc => ?_, fun w hw e c hc => ?_, ?_⟩⟩
  · exact (Option.map_eq_some_iff.trans (bindings.1 e l).symm)
  · obtain ⟨j, hj, rfl⟩ := List.mem_map.mp hw
    obtain ⟨member, link⟩ := List.mem_filter.mp hj
    exact (bound j member e c hc).trans (congrArg some (of_decide_eq_true link))
  · rw [State.works_jobList, ← List.map_tail] at hw
    obtain ⟨j, hj, rfl⟩ := List.mem_map.mp hw
    exact unasked l j hj e c hc
  · intro w e head hc
    rw [State.works_jobList, List.head?_map, ← State.firstJob_eq_head] at head
    obtain ⟨j, first, rfl⟩ := Option.map_eq_some_iff.mp head
    exact ready l j e first hc

theorem State.rootsSound_of_rooted {s : State} (h : s.stores.Rooted) : s.RootsSound := by
  refine ⟨h.sound, h.write, h.queue, h.occupied, fun j hj e c hc => ?_, fun l j hj e c hc => ?_,
    fun l j e first hc => ?_⟩
  · exact (h.claims j.link).bound j.work (List.mem_map_of_mem (List.mem_filter.mpr ⟨hj, by simp⟩)) e c hc
  · refine (h.claims l).unasked j.work ?_ e c hc
    rw [State.works_jobList, ← List.map_tail]
    exact List.mem_map_of_mem hj
  · refine (h.claims l).ready j.work e ?_ hc
    rw [State.works_jobList, List.head?_map, ← State.firstJob_eq_head, first]
    rfl

/-- Settles O58: every change of the stores keeps the order of the root store. -/
theorem stepKeepsRoots : Obligations.StepKeepsRoots := by
  unfold Obligations.StepKeepsRoots
  intro s t bindings roots next
  exact State.rootsSound_of_rooted
    ((step_goes next).keeps (p := Stores.Rooted) (fun run => run.keeps Deal.rooted) Turn.rooted (roots.rooted bindings))

end Sys2Proof.Machine
end

section
/-! PROOFS. The arbiter takes the first eligible job in round-robin order (R58). -/

namespace Sys2Proof.Machine

open Sys2Proof

variable {s : State} {l : Link}

theorem State.eligible_iff : s.eligible l = true ↔ ∃ before j after, s.First l before j after ∧ j.state = .waiting ∧
    ∀ e c, j.work.claim = some (e, c) → c = .ready := by
  rw [State.eligible, Option.any_eq_true]
  constructor
  · rintro ⟨j, found, eligible⟩
    obtain ⟨before, after, first⟩ := State.first_of_firstJob found
    exact ⟨before, j, after, first, Job.isEligible_iff.mp eligible⟩
  · rintro ⟨before, j, after, first, eligible⟩
    exact ⟨j, first.firstJob, Job.isEligible_iff.mpr eligible⟩

theorem State.nextLink_eq : s.nextLink = (Fin.find? fun i : Fin 64 => s.eligible (s.pointer + 1 + i)).map
    fun i => s.pointer + 1 + i := by
  rw [State.nextLink, List.find?_map, Fin.find?_eq_find?_finRange]
  rfl

theorem State.nextLink_eq_none (h : ∀ l, s.eligible l = false) : s.nextLink = none := by
  simp [State.nextLink, h]

/-- The link taken is the first from the pointer on that has an eligible job (R58). -/
theorem State.nextLink_eq_some {d : Fin 64} (eligible : s.eligible (s.pointer + 1 + d) = true)
    (earlier : ∀ i < d, s.eligible (s.pointer + 1 + i) = false) : s.nextLink = some (s.pointer + 1 + d) := by
  have found : (Fin.find? fun i : Fin 64 => s.eligible (s.pointer + 1 + i)) = some d :=
    Fin.find?_eq_some_iff.mpr ⟨eligible, earlier⟩
  rw [State.nextLink_eq, found, Option.map_some]

theorem State.grant_of_busy {lane : Lane} (busy : ∃ j ∈ s.pool, j.state = .inLane lane) : s.grant lane = s := by
  obtain ⟨j, member, state⟩ := busy
  have found : (s.laneJob lane).isSome = true := List.find?_isSome.mpr ⟨j, member, by simp [Job.isIn, state]⟩
  obtain ⟨i, found⟩ := Option.isSome_iff_exists.mp found
  rw [State.grant, found]

theorem State.grant_of_idle {lane : Lane} (idle : s.nextLink = none) : s.grant lane = s := by
  rw [State.grant, idle]
  cases s.laneJob lane <;> rfl

theorem State.grant_of_next {lane : Lane} (free : s.laneJob lane = none) (next : s.nextLink = some l) :
    s.grant lane = s.grantLink lane l := by
  rw [State.grant, free, next]

/-- Settles O33: the link taken is the first from the pointer on with an eligible job, and its first job is granted with
the counter it is ready for. -/
theorem grantIsRoundRobin : Obligations.GrantIsRoundRobin := by
  unfold Obligations.GrantIsRoundRobin
  intro s lane operating eligible
  have granted : exec (.grant lane) s = .next (s.grant lane) :=
    act_next (f := fun s => s.grant lane) operating
  refine ⟨fun idle => ?_, fun d before j after free earlier first waiting => ?_⟩
  · rw [granted]
    rcases idle with busy | none
    · rw [State.grant_of_busy busy]
    · rw [State.grant_of_idle (State.nextLink_eq_none fun l => Bool.eq_false_iff.mpr fun h =>
        none l (State.eligible_iff.mp h))]
  · have taken (claim : ∀ e c, j.work.claim = some (e, c) → c = .ready) :
        s.grant lane = s.grantLink lane (s.pointer + 1 + d) :=
      State.grant_of_next (State.laneJob_eq_none free)
        (State.nextLink_eq_some (State.eligible_iff.mpr ⟨before, j, after, first, waiting, claim⟩)
          fun i hi => Bool.eq_false_iff.mpr fun h => earlier i hi (State.eligible_iff.mp h))
    refine ⟨fun claim => ?_, fun e claim => ?_⟩
    · rw [granted, taken (by simp [claim]), first.grantLink_none claim]
    · rw [granted, taken (by simp [claim]), first.grantLink_some claim]

end Sys2Proof.Machine
end

section
/-! PROOFS. What a completed write does to the first job of the bound link (R64, R79, R83), and how a first job asks for
its counter (R56, R67, R79, R101). -/

namespace Sys2Proof.Machine

open Sys2Proof

variable {s : State} {e : EntryNo} {l : Link} {before after : List Job} {j : Job}

/-! ## A completed write -/

section Reports

variable (bound : (s.root e).bound = some l)

include bound

theorem State.reportWrite_of_no_job (none : s.firstJob l = none) : s.reportWrite e = s := by
  simp only [State.reportWrite, bound, none]

variable (first : s.firstJob l = some j)

include first

/-- A job in its lane is not concerned with a write (R64, R79). -/
theorem State.reportWrite_of_inLane {lane : Lane} (state : j.state = .inLane lane) : s.reportWrite e = s := by
  simp only [State.reportWrite, bound, first, state]

theorem State.reportWrite_of_not_raising (state : j.state = .waiting) (claim : ∀ n, j.work.claim ≠ some (n, .raising)) :
    s.reportWrite e = s := by
  -- the last branch of the match on the claim is taken by the hypothesis `claim`
  simp only [State.reportWrite, bound, first, state]

/-- A job that waits for a raise is ready once its counter is at most the new S (R79). -/
theorem State.reportWrite_of_raising (state : j.state = .waiting) {n : EntryNo}
    (claim : j.work.claim = some (n, .raising)) :
    s.reportWrite e = if (s.root e).outCounter + 1 ≤ (s.root e).stored.ceiling then s.onFirst l (Job.withClaim .ready)
      else s := by
  simp only [State.reportWrite, bound, first, state, claim]

/-- A HELD record is released once its counter is at most the new I (R64, R83). -/
theorem State.reportWrite_of_held {content : RootContent} {tag : Byte} {root : RootBinding} {record : List Byte}
    (state : j.state = .held content) (work : j.work = .decipherRoot tag root record) :
    s.reportWrite e = if recordSequence record ≤ (s.root e).stored.inCounter then s.release l tag record content
      else s := by
  simp only [State.reportWrite, bound, first, state, work]

end Reports

/-- Settles O17: by what the first job of the bound link waits for. -/
theorem completedWriteReported : Obligations.CompletedWriteReported := by
  unfold Obligations.CompletedWriteReported
  refine ⟨fun s e unbound => ?_,
    fun s e l bound none => State.reportWrite_of_no_job bound (State.firstJob_eq_none none),
    fun s e l before j after bound found => ?_⟩
  · rw [State.reportWrite, unbound]
  have first := found.firstJob
  refine ⟨?_, fun n waiting raising => ?_,
    fun content tag root record held work => ⟨fun low => ?_, fun reached u offer ask => ?_⟩⟩
  · rintro (⟨lane, state⟩ | ⟨waiting, claim⟩)
    · exact State.reportWrite_of_inLane bound first state
    · exact State.reportWrite_of_not_raising bound first waiting claim
  · rw [State.reportWrite_of_raising bound first waiting raising, found.onFirst]
    rfl
  · rw [State.reportWrite_of_held bound first held work, if_neg (Nat.not_le.mpr low)]
  · have acts : s.releaseActs l content = u := by
      cases content with
      | offer t => exact (offer t rfl).symm
      | ask reason => exact (ask reason rfl).symm
    rw [State.reportWrite_of_held bound first held work, if_pos reached, State.release, acts]
    rfl

/-! ## The counter of a first job -/

/-- A round fails with RENEW-FAIL, a hub's NEXT erased, and the context RESTING (R101). -/
theorem State.failRound_eq {entry : LinkEntry} (attached : s.entry l = some entry) :
    s.failRound l = { s.occurrence l .renewFail none none with
      keys := if entry.role = .hub then s.keys.put l { s.keySet l with next := none } else s.keys
      renewals := s.renewals.put l { s.renewal l with
        state := .resting, stepTimer := .running entry.policy.restTicks, retryOwed := false, claimDue := false } } := by
  have frame := s.occurrence_frame l .renewFail none none
  simp only [State.failRound, attached]
  cases entry.role with
  | hub =>
    simp [State.onRenewal, State.setRenewal, State.setKeys, State.renewal, State.keySet, frame.renewals, frame.keys]
  | shop => simp [State.onRenewal, State.setRenewal, State.renewal, frame.renewals, ← frame.keys]

theorem State.failRound_pool (s : State) (l : Link) : (s.failRound l).pool = s.pool := by
  cases entry : s.entry l with
  | none => rw [State.failRound, entry]
  | some e => rw [State.failRound_eq entry]; exact (s.occurrence_frame l .renewFail none none).pool

/-- No first job asks: the link has none, or its first job is not a waiting outbound root job that has not asked
(R56). -/
theorem State.settleFirst_of_none (h : (s.firstJob l).bind Job.asks = none) : s.settleFirst l = s := by
  rw [State.settleFirst, askFirst, h]

theorem RootEntry.answer_of_stored {r : RootEntry} (fresh : r.outCounter < maxWord)
    (stored : r.outCounter + 1 ≤ r.stored.ceiling) : r.answer = .ready := by
  rw [RootEntry.answer, if_neg (Nat.not_le.mpr fresh), if_pos stored]

theorem RootEntry.answer_of_low {r : RootEntry} (fresh : r.outCounter < maxWord)
    (low : r.stored.ceiling < r.outCounter + 1) : r.answer = .raising := by
  rw [RootEntry.answer, if_neg (Nat.not_le.mpr fresh), if_neg (Nat.not_le.mpr low)]

theorem RootEntry.answer_of_worn {r : RootEntry} (worn : maxWord ≤ r.outCounter) : r.answer = .worn := by
  rw [RootEntry.answer, if_pos worn]

theorem State.serveReleased_pool (s : State) : s.serveReleased.pool = s.pool := by
  unfold State.serveReleased
  split
  · rfl
  · split
    · exact s.serveOwed_frame.pool
    · split
      · exact s.chosen.serveOwed_frame.pool
      · rfl

theorem State.wornRoot_pool (s : State) (l : Link) : (s.wornRoot l).pool = s.pool := by
  unfold State.wornRoot
  split
  · exact s.failRound_pool l
  · exact s.failRound_pool l
  all_goals rfl

section Asking

variable (first : s.First l before j after) (asks : j.asks = some e)

include first asks

theorem State.First.settleFirst_ready (answer : (s.root e).answer = .ready) :
    s.settleFirst l = s.onFirst l (Job.withClaim .ready) := by
  simp only [State.settleFirst, askFirst, first.firstJob, Option.bind_some, asks, answer]

theorem State.First.settleFirst_raising (answer : (s.root e).answer = .raising) :
    s.settleFirst l = (s.onFirst l (Job.withClaim .raising)).raiseCeiling e := by
  simp only [State.settleFirst, askFirst, first.firstJob, Option.bind_some, asks, answer]

/-- A worn answer removes the job, and the next one is settled with one job fewer in the pool (R67). -/
theorem State.First.settleFirst_worn (answer : (s.root e).answer = .worn) :
    s.settleFirst l = (({ s with pool := before ++ after }.serveReleased).wornRoot l).settleFirst l := by
  have jobs : (({ s with pool := before ++ after }.serveReleased).wornRoot l).pool.length + 1 = s.pool.length := by
    rw [State.wornRoot_pool, State.serveReleased_pool, first.1]
    simp
    omega
  rw [State.settleFirst, askFirst, first.firstJob, Option.bind_some, asks]
  simp only [answer, first.removeFirst]
  rw [State.settleFirst, jobs]

end Asking

/-- Settles O26: by the answer of the entry that a first job asks (R79). -/
theorem firstJobAsks : Obligations.FirstJobAsks := by
  unfold Obligations.FirstJobAsks
  refine ⟨fun s l => ⟨fun none => ?_, fun before j after first => ⟨fun done => ?_, fun n waiting claim => ?_⟩⟩,
    fun s l => ⟨fun state => ?_, fun offered asked => ?_⟩, fun s l e u entry occurred => ?_⟩
  · exact State.settleFirst_of_none (by rw [State.firstJob_eq_none none, Option.bind_none])
  · refine State.settleFirst_of_none ?_
    rw [first.firstJob, Option.bind_some, Option.eq_none_iff_forall_ne_some]
    intro n asks
    obtain ⟨waiting, claim⟩ := Job.asks_eq_some.mp asks
    exact done.elim (absurd waiting) fun unasked => absurd claim (unasked n)
  · have asks := Job.asks_eq_some.mpr ⟨waiting, claim⟩
    refine ⟨fun fresh stored => ?_, fun fresh low live => ?_, fun fresh low live => ?_, fun worn => ?_⟩
    · rw [first.settleFirst_ready asks (RootEntry.answer_of_stored fresh stored), first.onFirst]
      rfl
    · rw [first.settleFirst_raising asks (RootEntry.answer_of_low fresh low), first.onFirst]
      exact if_neg (Nat.not_lt.mpr live)
    · rw [first.settleFirst_raising asks (RootEntry.answer_of_low fresh low), first.onFirst]
      exact if_pos live
    · exact first.settleFirst_worn asks (RootEntry.answer_of_worn worn)
  · rcases state with state | state <;> rw [State.wornRoot, state]
  · rw [State.wornRoot]
    split
    · next state => exact absurd state offered
    · next state => exact absurd state asked
    all_goals rfl
  · rw [occurred]
    exact State.failRound_eq entry

end Sys2Proof.Machine
end

section
/-! PROOFS. Requests for a CLOSED link or a link number above 63 (R59, R61, R171), and DETACH (R70, R119). -/

namespace Sys2Proof.Machine

open Sys2Proof

variable {s : State} {r : Request} {rest : List Request} {b : Byte}

/-! ## Bodies that are well formed (R173) -/

theorem faultSetOf_isSome {bytes : List Byte} (small : beNat bytes < 8192) : ∃ mask, faultSetOf bytes = some mask :=
  ⟨_, if_pos small⟩

theorem faultKindOf_isSome {k : Byte} (kind : k.toNat ≤ 12) : ∃ x, faultKindOf k = some x :=
  ⟨_, List.getElem?_eq_getElem (show k.toNat < FaultKind.all.length from Nat.lt_succ_of_le kind)⟩

theorem faultClearBodyOf_plain {m k : Byte} (small : beNat [m, k] < 8192) :
    ∃ mask, faultClearBodyOf [b, 0, m, k] = some (b, mask, none) := by
  obtain ⟨mask, parsed⟩ := faultSetOf_isSome small
  exact ⟨mask, by simp only [faultClearBodyOf, if_true, parsed, Option.map_some]⟩

theorem faultClearBodyOf_stamped {m k : Byte} (small : beNat [m, k] < 8192) (h j : Byte) :
    ∃ mask, faultClearBodyOf [b, 1, m, k, h, j] = some (b, mask, some (beNat [h, j])) := by
  obtain ⟨mask, parsed⟩ := faultSetOf_isSome small
  exact ⟨mask, by simp only [faultClearBodyOf, if_true, parsed, Option.map_some]⟩

theorem faultEnableBodyOf_eq {m k : Byte} (small : beNat [m, k] < 8192) :
    ∃ mask, faultEnableBodyOf [b, m, k] = some (b, mask) := by
  obtain ⟨mask, parsed⟩ := faultSetOf_isSome small
  exact ⟨mask, by simp only [faultEnableBodyOf, parsed, Option.map_some]⟩

theorem counterSetBodyOf_plain {c p : Byte} (counter : c.toNat ≤ 1) (presence : p = 0 ∨ p = 2) :
    ∃ x, counterSetBodyOf [b, c, p] = some x ∧ x.link = b :=
  ⟨_, if_pos ⟨counter, presence⟩, rfl⟩

theorem counterSetBodyOf_source {c p k : Byte} (counter : c.toNat ≤ 1) (presence : p = 1 ∨ p = 3)
    (kind : k.toNat ≤ 12) : ∃ x, counterSetBodyOf [b, c, p, k] = some x ∧ x.link = b := by
  obtain ⟨source, parsed⟩ := faultKindOf_isSome kind
  exact ⟨_, by rw [counterSetBodyOf, if_pos ⟨counter, presence⟩, parsed, Option.map_some], rfl⟩

/-! ## NO-LINK for a link that is not attached -/

section Unattached

variable (unattached : s.Unattached b)

include unattached

theorem onAttached_unattached (body : r.body = [b]) (f : Request → Link → LinkEntry → State → State) :
    onAttached f r s = s.noLink r b := by
  simp only [onAttached, body, linkBodyOf, State.attachedLink_none unattached]

theorem takePolicy_unattached {items : List PolicyItem} (parsed : policyBodyOf r.body = some (b, items)) :
    takePolicy r s = s.noLink r b := by
  simp only [takePolicy, parsed, State.attachedLink_none unattached]

theorem takeEncipher_unattached {payload : List Byte} (parsed : encipherBodyOf r.body = some (b, payload)) :
    takeEncipher r s = s.noLink r b := by
  simp only [takeEncipher, parsed, State.attachedLink_none unattached]

theorem takeDecipher_unattached {record : List Byte} (parsed : decipherBodyOf r.body = some (b, record)) :
    takeDecipher r s = s.noLink r b := by
  simp only [takeDecipher, parsed, State.attachedLink_none unattached]

theorem takeFaultClear_unattached {mask : FaultSet} {stamp : Option Nat}
    (parsed : faultClearBodyOf r.body = some (b, mask, stamp)) : takeFaultClear r s = s.noLink r b := by
  simp only [takeFaultClear, parsed, State.attachedLink_none unattached]

theorem takeFaultEnable_unattached {mask : FaultSet} (parsed : faultEnableBodyOf r.body = some (b, mask)) :
    takeFaultEnable r s = s.noLink r b := by
  simp only [takeFaultEnable, parsed, State.attachedLink_none unattached]

theorem takeCounterSet_unattached {x : CounterSetBody} (parsed : counterSetBodyOf r.body = some x) (link : x.link = b) :
    takeCounterSet r s = s.noLink r b := by
  subst link
  simp only [takeCounterSet, parsed, State.attachedLink_none unattached]

end Unattached

/-! ## NO-LINK for a number above 63 -/

section NoNumber

variable (above : 63 < b.toNat)

include above

theorem takeLinkRead_above (body : r.body = [b]) : takeLinkRead r s = s.noLink r b := by
  simp only [takeLinkRead, body, linkBodyOf, numberOf_eq_none.mpr above]

theorem takeAttach_above {e : EntryNo} {items : List PolicyItem} (parsed : attachBodyOf r.body = some (b, e, items)) :
    takeAttach r s = s.noLink r b := by
  simp only [takeAttach, parsed, numberOf_eq_none.mpr above]

theorem takeNoticeMode_above (parsed : noticeModeBodyOf r.body = some (.one b)) :
    takeNoticeMode r s = s.noLink r b := by
  simp only [takeNoticeMode, parsed, numberOf_eq_none.mpr above]

end NoNumber

/-! ## The refusals -/

/-- A request taken and refused with NO-LINK (R161, R175). -/
theorem takes_noLink {kind : Byte} {f : Request → State → State} (takes : s.Takes r rest) (is : r.kind = kind)
    (refused : f r { s with requests := rest } = State.noLink { s with requests := rest } r b) :
    act (takeRequest kind f) s = .next (s.answered rest (answerOf r [0x11, b])) := by
  rw [takes_next takes is, refused]
  rfl

/-- Settles O13: each request's body parses, and its link byte names no attached link. -/
theorem unattachedLinksRefused : Obligations.UnattachedLinksRefused := by
  unfold Obligations.UnattachedLinksRefused
  intro s r rest b takes refused
  refine ⟨fun unattached => ?_, fun above => ?_⟩
  · have closed : State.Unattached { s with requests := rest } b := unattached
    have attached {kind : Byte} (f : Request → Link → LinkEntry → State → State) (is : r.kind = kind)
        (body : r.body = [b]) : act (takeRequest kind (onAttached f)) s = refused :=
      takes_noLink takes is (onAttached_unattached closed body f)
    refine ⟨attached _, attached _, attached _, attached _, fun list items is body parsed => ?_,
      fun payload is body short => ?_, fun h k record is body length => ?_, fun m k is body small => ?_,
      fun m k h j is body small => ?_, fun m k is body small => ?_, fun c p is body counter presence => ?_,
      fun c p k is body counter presence kind => ?_⟩
    · exact takes_noLink takes is (takePolicy_unattached closed (by rw [body, policyBodyOf, parsed, Option.map_some]))
    · exact takes_noLink takes is (takeEncipher_unattached closed (by rw [body]; exact if_pos short))
    · exact takes_noLink takes is (takeDecipher_unattached closed (by rw [body, decipherBodyOf, if_pos length]))
    · obtain ⟨mask, parsed⟩ := faultClearBodyOf_plain (b := b) small
      exact takes_noLink takes is (takeFaultClear_unattached closed (body ▸ parsed))
    · obtain ⟨mask, parsed⟩ := faultClearBodyOf_stamped (b := b) small h j
      exact takes_noLink takes is (takeFaultClear_unattached closed (body ▸ parsed))
    · obtain ⟨mask, parsed⟩ := faultEnableBodyOf_eq (b := b) small
      exact takes_noLink takes is (takeFaultEnable_unattached closed (body ▸ parsed))
    · obtain ⟨x, parsed, link⟩ := counterSetBodyOf_plain (b := b) counter presence
      exact takes_noLink takes is (takeCounterSet_unattached closed (body ▸ parsed) link)
    · obtain ⟨x, parsed, link⟩ := counterSetBodyOf_source (b := b) counter presence kind
      exact takes_noLink takes is (takeCounterSet_unattached closed (body ▸ parsed) link)
  · refine ⟨fun is body => ?_, fun e list items is body parsed => ?_, fun is body => ?_⟩
    · exact takes_noLink takes is (takeLinkRead_above above body)
    · exact takes_noLink takes is
        (takeAttach_above (e := e) (items := items) above
          (by simp only [body, attachBodyOf, numberOf_byteOf, parsed]))
    · exact takes_noLink takes is (takeNoticeMode_above above (by rw [body]; rfl))

/-! ## DETACH -/

/-- The tag and the reply kind of the request a host job answers (R68). -/
theorem abortedReply_eq (l : Link) (j : Job) : abortedReply l j =
    (match j.work with
     | .encipher tag .. => some (tag, 0xB0#8)
     | .decipherTraffic tag .. => some (tag, 0xB1#8)
     | .decipherRoot tag .. => some (tag, 0xB1#8)
     | _ => none).map fun x : Byte × Byte => replyOf x.1 x.2 [0x1C, byteOf l.val] := by
  rw [abortedReply]
  cases j.work <;> rfl

/-- The state of a DETACH before the freed slots are given out: every block has dropped what it holds for the link, and
the link's host jobs are answered ABORTED (R70, R119). -/
def State.droppedLink (s : State) (l : Link) (e : LinkEntry) : State :=
  { s with
    pool := s.pool.filter fun j => decide (j.link ≠ l)
    output := s.output ++ (s.pool.filter fun j => decide (j.link = l)).filterMap (abortedReply l)
    keys := s.keys.put l KeySet.empty
    renewals := s.renewals.put l RenewalContext.initial
    faults := s.faults.put l FaultRecord.initial
    owed := s.owed.filter fun x => decide (x ≠ l)
    roots := s.roots.put e.rootEntry { s.root e.rootEntry with bound := none }
    links := s.links.put l none }

theorem State.detachLink_eq (s : State) (l : Link) (e : LinkEntry) :
    s.detachLink l e = (s.droppedLink l e).serveFreed := by
  have others : (fun j : Job => !decide (j.link = l)) = fun j => decide (j.link ≠ l) :=
    funext fun j => (decide_not).symm
  simp only [State.detachLink, State.abortJobs, others]
  rfl

/-- Settles O20: the request is taken, the link dropped and the freed slots served before the reply. -/
theorem detachCloses : Obligations.DetachCloses := by
  unfold Obligations.DetachCloses
  intro s r rest l e u takes kind body entry dropped
  have next : exec .detach s = .next (u.serveFreed.reply r .ok [numberByte l]) := by
    have state : u = State.droppedLink { s with requests := rest } l e := by
      rw [dropped, State.droppedLink, funext (abortedReply_eq l)]
      rfl
    refine (takes_next takes kind).trans (congrArg Host.Outcome.next ?_)
    rw [takeDetach, onAttached_eq (s := { s with requests := rest }) body entry, State.detachLink_eq, state]
  refine ⟨fun none => ?_, fun _ => next⟩
  rw [next, State.serveFreed_nil none]
  rfl

end Sys2Proof.Machine
end

section
/-! PROOFS. What a shared operation spares: one on a link leaves every other CLOSED link holding nothing, closes no link,
takes no counter and moves no stored image (`State.Spares`), and so does one that serves several links, since no event of
a CLOSED link is due and no notice is owed for it (R74, R80, R114, R138, R146). -/

namespace Sys2Proof.Machine

open Sys2Proof

/-! ## Links that are spared -/

/-- A CLOSED link that holds no key slot, no fault and no job, that is owed no notice, and whose renewal context is in
IDLE (R114, R138). -/
structure State.Vacant (s : State) (l : Link) : Prop where
  entry : s.entry l = none
  keys : s.keySet l = KeySet.empty
  renewal : s.renewal l = RenewalContext.initial
  faults : s.faultRecord l = FaultRecord.initial
  owed : l ∉ s.owed
  jobs : ∀ j ∈ s.pool, j.link ≠ l

/-- The parts of the state that links and counters are spared in. -/
def State.guarded (s : State) := (s.links, s.keys, s.renewals, s.faults, s.owed, s.pool, s.roots)

/-- From `s` to `t` no link has been closed, every vacant link but `own` is vacant still, no job has taken a counter,
and no stored image and no out-counter has moved. -/
structure State.Spares (own : Option Link) (s t : State) : Prop where
  attached : ∀ m, t.entry m = none → s.entry m = none
  vacant : ∀ m, own ≠ some m → s.Vacant m → t.Vacant m
  taken : ∀ j ∈ t.pool, ∀ e n, j.work.claim = some (e, .taken n) → j ∈ s.pool
  counters : ∀ e, (t.root e).stored = (s.root e).stored ∧ (t.root e).outCounter = (s.root e).outCounter

variable {s t u : State} {l : Link} {own : Option Link}

theorem State.Spares.of_eq (same : t.guarded = s.guarded) : s.Spares own t := by
  simp only [State.guarded, Prod.mk.injEq] at same
  obtain ⟨links, keys, renewals, faults, owed, pool, roots⟩ := same
  refine ⟨fun m h => ?_, fun m _ h => ?_, fun j hj _ _ _ => pool ▸ hj, fun e => ?_⟩
  · rwa [State.entry, links] at h
  · obtain ⟨entry, key, renewal, fault, notOwed, jobs⟩ := h
    exact ⟨by rwa [State.entry, links], by rwa [State.keySet, keys], by rwa [State.renewal, renewals],
      by rwa [State.faultRecord, faults], by rwa [owed], by rwa [pool]⟩
  · simp only [State.root, roots, and_self]

theorem State.Spares.refl (s : State) : s.Spares own s := .of_eq rfl

theorem State.Spares.trans (h : s.Spares own t) (k : t.Spares own u) : s.Spares own u where
  attached m x := h.attached m (k.attached m x)
  vacant m other x := k.vacant m other (h.vacant m other x)
  taken j hj e n claim := h.taken j (k.taken j hj e n claim) e n claim
  counters e := ⟨(k.counters e).1.trans (h.counters e).1, (k.counters e).2.trans (h.counters e).2⟩

/-- What links and counters are not spared in has moved before. -/
theorem State.Spares.since (h : u.Spares own t) (same : u.guarded = s.guarded) : s.Spares own t :=
  .trans (.of_eq same) h

/-- Where link `l` is not vacant itself, every vacant link is spared. -/
theorem State.Spares.all (h : s.Spares (some l) t) (here : ¬ s.Vacant l) : s.Spares own t :=
  { h with vacant := fun m _ x => h.vacant m (fun same => here (Option.some.inj same ▸ x)) x }

theorem State.not_vacant_of_entry {e : LinkEntry} (entry : s.entry l = some e) : ¬ s.Vacant l :=
  fun h => nomatch entry.symm.trans h.entry

theorem State.not_vacant_of_job {j : Job} (member : j ∈ s.pool) : ¬ s.Vacant j.link :=
  fun h => h.jobs j member rfl

/-! ## Updates of one link -/

/-- The tables have moved at one link alone, and have not lost its entry. -/
theorem State.Spares.of_link (attached : t.entry l = none → s.entry l = none)
    (others : ∀ m, m ≠ l → t.entry m = s.entry m ∧ t.keySet m = s.keySet m ∧ t.renewal m = s.renewal m ∧
      t.faultRecord m = s.faultRecord m ∧ (m ∈ t.owed → m ∈ s.owed))
    (pool : t.pool = s.pool) (roots : t.roots = s.roots) : s.Spares (some l) t where
  attached m h := by
    by_cases same : m = l
    · subst same; exact attached h
    · rwa [(others m same).1] at h
  vacant m other h := by
    obtain ⟨entry, keys, renewal, faults, owed⟩ := others m fun same => other (congrArg some same.symm)
    exact ⟨entry.trans h.entry, keys.trans h.keys, renewal.trans h.renewal, faults.trans h.faults,
      fun x => h.owed (owed x), pool ▸ h.jobs⟩
  taken j hj _ _ _ := pool ▸ hj
  counters e := by simp only [State.root, roots, and_self]

theorem State.setKeys_spares (s : State) (l : Link) (k : KeySet) : s.Spares (some l) (s.setKeys l k) :=
  .of_link id (fun m hm => by simp [hm]) rfl rfl

theorem State.onRenewal_spares (s : State) (l : Link) (f : RenewalContext → RenewalContext) :
    s.Spares (some l) (s.onRenewal l f) :=
  .of_link id (fun m hm => by simp [hm]) rfl rfl

theorem State.setEntry_spares (s : State) (l : Link) (e : LinkEntry) : s.Spares (some l) (s.setEntry l (some e)) :=
  .of_link (by simp) (fun m hm => by simp [hm]) rfl rfl

theorem State.onEntry_spares (s : State) (l : Link) (f : LinkEntry → LinkEntry) : s.Spares (some l) (s.onEntry l f) :=
  .of_link (by simp) (fun m hm => by simp [hm]) rfl rfl

theorem State.onFaults_spares (s : State) (l : Link) (f : FaultRecord → FaultRecord) :
    s.Spares (some l) (s.onFaults l f) :=
  .of_link id (fun m hm => by simp [hm]) rfl rfl

theorem State.place_spares (s : State) (f : OutFrame) : s.Spares own (s.place f) := .of_eq rfl

theorem State.chosen_spares (s : State) : s.Spares own s.chosen := .of_eq rfl

/-! ## Jobs -/

/-- A job has not taken a counter. -/
def Work.Untaken (w : Work) : Prop := ∀ e n, w.claim ≠ some (e, .taken n)

/-- The pool alone has moved: a job of it is one there was, or has taken no counter and is of a link that had one or is
not spared. -/
theorem State.Spares.of_pool (pool : List Job) (jobs : ∀ j ∈ pool, j ∈ s.pool ∨
    j.work.Untaken ∧ (own = some j.link ∨ ∃ i ∈ s.pool, i.link = j.link)) : s.Spares own { s with pool := pool } where
  attached _ := id
  vacant m other h := by
    refine ⟨h.entry, h.keys, h.renewal, h.faults, h.owed, fun j hj link => ?_⟩
    rcases jobs j hj with old | ⟨-, mine | ⟨i, hi, same⟩⟩
    · exact h.jobs j old link
    · exact other (link ▸ mine)
    · exact h.jobs i hi (same.trans link)
  taken j hj e n claim := (jobs j hj).resolve_right fun new => new.1 e n claim
  counters _ := ⟨rfl, rfl⟩

theorem State.Spares.of_sublist {pool : List Job} (fewer : pool.Sublist s.pool) :
    s.Spares own { s with pool := pool } :=
  .of_pool pool fun _ hj => .inl (fewer.subset hj)

theorem State.removeFirst_spares (s : State) (l : Link) : s.Spares own (s.removeFirst l) :=
  .of_sublist List.eraseP_sublist

theorem State.removeLane_spares (s : State) (lane : Lane) : s.Spares own (s.removeLane lane) :=
  .of_sublist List.eraseP_sublist

theorem State.withdraw_spares (s : State) (l : Link) (sort : Work → Bool) : s.Spares own (s.withdraw l sort) :=
  .of_sublist List.filter_sublist

theorem State.append_spares (s : State) (l : Link) {work : Work} (untaken : work.Untaken) :
    s.Spares (some l) (s.append { link := l, state := .waiting, work := work }) :=
  .of_pool _ fun j hj => by
    rcases List.mem_append.mp hj with old | new
    · exact .inl old
    · rw [List.mem_singleton.mp new]
      exact .inr ⟨untaken, .inl rfl⟩

/-- A claim that is moved to another is that other, where there is one. -/
theorem Work.claim_withClaim_eq (w : Work) (c : CounterClaim) :
    (w.withClaim c).claim = w.claim.map fun x => (x.1, c) := by
  cases w <;> rfl

theorem Work.untaken_withClaim (w : Work) {c : CounterClaim} (other : ∀ n, c ≠ .taken n) :
    (w.withClaim c).Untaken := by
  intro e n claim
  rw [Work.claim_withClaim_eq, Option.map_eq_some_iff] at claim
  obtain ⟨x, -, same⟩ := claim
  exact other n (congrArg Prod.snd same)

theorem State.onFirst_claim_spares (s : State) (l : Link) {c : CounterClaim} (other : ∀ n, c ≠ .taken n) :
    s.Spares own (s.onFirst l (Job.withClaim c)) :=
  .of_pool _ fun j hj => by
    rcases mem_changeFirst hj with old | ⟨i, hi, -, rfl⟩
    · exact .inl old
    · exact .inr ⟨i.work.untaken_withClaim other, .inr ⟨i, hi, rfl⟩⟩

/-! ## The root store -/

theorem State.requestWrite_spares (s : State) (e : EntryNo) : s.Spares own (s.requestWrite e) := by
  have joins : s.Spares own (s.joinNvQueue e) := by
    unfold State.joinNvQueue
    split <;> exact .of_eq rfl
  unfold State.requestWrite
  split
  · exact joins
  · split
    · exact .of_eq rfl
    · exact joins

/-- A root entry keeps its stored image and its out-counter. -/
theorem State.setRoot_spares {e : EntryNo} {r : RootEntry} (stored : r.stored = (s.root e).stored)
    (counter : r.outCounter = (s.root e).outCounter) : s.Spares own (s.setRoot e r) where
  attached _ := id
  vacant _ _ h := ⟨h.entry, h.keys, h.renewal, h.faults, h.owed, h.jobs⟩
  taken _ hj _ _ _ := hj
  counters n := by
    by_cases same : n = e
    · subst same
      rw [State.root_setRoot_same]
      exact ⟨stored, counter⟩
    · rw [State.root_setRoot_ne s e n r same]
      exact ⟨rfl, rfl⟩

theorem State.raiseCeiling_spares (s : State) (e : EntryNo) : s.Spares own (s.raiseCeiling e) := by
  unfold State.raiseCeiling
  split
  · have raised : s.Spares own
        (s.setRoot e { s.root e with ceiling := min ((s.root e).stored.ceiling + 16) maxWord }) :=
      State.setRoot_spares rfl rfl
    exact raised.trans (State.requestWrite_spares _ e)
  · exact .refl s

theorem State.startWrite_spares (s : State) : s.Spares own s.startWrite := by
  unfold State.startWrite
  split
  · exact .of_eq rfl
  · exact .refl s
  · exact .refl s

/-! ## Notices and occurrences -/

theorem mem_joinOwed {m : Link} {xs : List Link} : m ∈ joinOwed l xs ↔ m = l ∨ m ∈ xs := by
  induction xs with
  | nil => simp [joinOwed]
  | cons x rest ih =>
    unfold joinOwed
    split
    · exact List.mem_cons
    · split
      · next same => simp [same]
      · rw [List.mem_cons, ih, List.mem_cons, or_left_comm]

theorem State.placeNotice_spares (s : State) (l : Link) : s.Spares (some l) (s.placeNotice l) :=
  .trans (s.place_spares _) (State.onFaults_spares _ l _)

/-- The lowest owed link, which is not vacant, takes its NOTICE (R145). -/
theorem State.noticeOwed_spares {rest : List Link} (owed : s.owed = l :: rest) :
    s.Spares own ({ s with owed := rest }.placeNotice l) := by
  refine State.Spares.all (l := l) ?_ fun h => h.owed (by simp [owed])
  refine .trans (t := { s with owed := rest }) (.of_link id (fun m _ => ⟨rfl, rfl, rfl, rfl, fun h => ?_⟩) rfl rfl)
    (State.placeNotice_spares _ l)
  rw [owed]
  exact List.mem_cons_of_mem l h

theorem State.becomePending_spares (s : State) (l : Link) : s.Spares (some l) (s.becomePending l) := by
  unfold State.becomePending
  split
  · exact .refl s
  · split
    · exact s.placeNotice_spares l
    · exact .of_link id (fun m hm => ⟨rfl, rfl, rfl, rfl, fun h => (mem_joinOwed.mp h).resolve_left hm⟩) rfl rfl

theorem State.ceasePending_spares (s : State) (l : Link) : s.Spares (some l) (s.ceasePending l) :=
  .trans (s.onFaults_spares l fun r => { r with noticeSent := false })
    (.of_link id (fun _ _ => ⟨rfl, rfl, rfl, rfl, fun h => List.mem_of_mem_filter h⟩) rfl rfl)

theorem State.judgePending_spares (s : State) (l : Link) (before : Bool) :
    s.Spares (some l) (s.judgePending l before) := by
  unfold State.judgePending
  split
  · exact s.becomePending_spares l
  · exact s.ceasePending_spares l
  · exact .refl s
  · exact .refl s

theorem serveOwedList_spares (ls : List Link) (s : State) (owed : s.owed = ls) : s.Spares own (serveOwedList ls s) := by
  induction ls generalizing s with
  | nil => exact .refl s
  | cons l rest ih =>
    unfold serveOwedList
    split
    · exact (State.noticeOwed_spares owed).trans (ih _ rfl)
    · exact .refl s

theorem State.serveOwed_spares (s : State) : s.Spares own s.serveOwed := serveOwedList_spares s.owed s rfl

theorem State.occurrence_spares (s : State) (l : Link) (k : FaultKind) (epoch sequence : Option Nat) :
    s.Spares (some l) (s.occurrence l k epoch sequence) := by
  have logged : ∀ (u : State) x, u.Spares (some l) (u.offerLog x) := by
    intro u x
    unfold State.offerLog
    split <;> exact .of_eq rfl
  unfold State.occurrence
  split
  · exact s.onFaults_spares l _
  · exact (((s.onFaults_spares l _).trans (State.onFaults_spares _ l _)).trans (logged _ _)).trans
      (State.judgePending_spares _ l _)

theorem State.serveReleased_spares (s : State) : s.Spares own s.serveReleased := by
  unfold State.serveReleased
  split
  · exact .refl s
  · split
    · exact s.serveOwed_spares
    · split
      · exact s.chosen_spares.trans s.chosen.serveOwed_spares
      · exact s.chosen_spares

/-! ## Rounds and triggers -/

theorem State.failRound_spares (s : State) (l : Link) : s.Spares (some l) (s.failRound l) := by
  unfold State.failRound
  split
  · exact .refl s
  · have reported := s.occurrence_spares l .renewFail none none
    dsimp only
    split
    · exact (reported.trans (State.setKeys_spares _ l _)).trans (State.onRenewal_spares _ l _)
    · exact reported.trans (State.onRenewal_spares _ l _)

theorem State.wornRoot_spares (s : State) (l : Link) : s.Spares (some l) (s.wornRoot l) := by
  unfold State.wornRoot
  split
  · exact s.failRound_spares l
  · exact s.failRound_spares l
  all_goals exact .refl s

theorem askFirst_spares (fuel : Nat) (l : Link) (s : State) : s.Spares (some l) (askFirst fuel l s) := by
  induction fuel generalizing s with
  | zero => exact .refl s
  | succ fuel ih =>
    unfold askFirst
    split
    · exact .refl s
    · split
      · exact s.onFirst_claim_spares l fun _ => nofun
      · exact (s.onFirst_claim_spares l (c := .raising) fun _ => nofun).trans (State.raiseCeiling_spares _ _)
      · exact (((s.removeFirst_spares l).trans (State.serveReleased_spares _)).trans
          (State.wornRoot_spares _ l)).trans (ih _)

theorem State.settleFirst_spares (s : State) (l : Link) : s.Spares (some l) (s.settleFirst l) := askFirst_spares _ l s

theorem State.createNext_spares (s : State) (l : Link) : s.Spares (some l) (s.createNext l) := by
  unfold State.createNext
  split
  · exact .refl s
  · exact .trans (s.setKeys_spares l _) (.of_eq rfl)

theorem State.appendOffer_spares (s : State) (l : Link) : s.Spares (some l) (s.appendOffer l) := by
  unfold State.appendOffer
  split
  · exact s.append_spares l fun _ _ => nofun
  · exact .refl s

theorem State.appendAsk_spares (s : State) (l : Link) : s.Spares (some l) (s.appendAsk l) := by
  unfold State.appendAsk
  split
  · exact s.append_spares l fun _ _ => nofun
  · exact .refl s

theorem State.requestOffer_spares (s : State) (l : Link) : s.Spares (some l) (s.requestOffer l) := by
  unfold State.requestOffer
  split
  · exact (((s.createNext_spares l).trans (State.appendOffer_spares _ l)).trans (State.onRenewal_spares _ l _)).trans
      (State.settleFirst_spares _ l)
  · exact .refl s

theorem State.requestAsk_spares (s : State) (l : Link) : s.Spares (some l) (s.requestAsk l) := by
  unfold State.requestAsk
  split
  · exact ((s.appendAsk_spares l).trans (State.onRenewal_spares _ l _)).trans (State.settleFirst_spares _ l)
  · exact .refl s

theorem State.retryOffer_spares (s : State) (l : Link) : s.Spares (some l) (s.retryOffer l) := by
  unfold State.retryOffer
  split
  · exact ((s.appendOffer_spares l).trans (State.onRenewal_spares _ l _)).trans (State.settleFirst_spares _ l)
  · exact s.onRenewal_spares l _

theorem State.retryAsk_spares (s : State) (l : Link) : s.Spares (some l) (s.retryAsk l) := by
  unfold State.retryAsk
  split
  · exact ((s.appendAsk_spares l).trans (State.onRenewal_spares _ l _)).trans (State.settleFirst_spares _ l)
  · exact s.onRenewal_spares l _

theorem State.startRound_spares (s : State) (l : Link) : s.Spares (some l) (s.startRound l) := by
  unfold State.startRound
  split
  · exact .refl s
  · split
    · exact (s.onRenewal_spares l _).trans (State.requestOffer_spares _ l)
    · exact (s.onRenewal_spares l _).trans (State.requestAsk_spares _ l)

theorem State.trigger_spares (s : State) (l : Link) (reason : Reason) : s.Spares (some l) (s.trigger l reason) := by
  unfold State.trigger
  split
  · exact (s.onRenewal_spares l _).trans (State.startRound_spares _ l)
  · exact s.onRenewal_spares l _

/-! ## Outbound traffic -/

theorem State.softCross_spares (s : State) (l : Link) (role : SlotRole) : s.Spares (some l) (s.softCross l role) := by
  unfold State.softCross
  split
  · exact .refl s
  · split
    · exact (s.setKeys_spares l _).trans (State.trigger_spares _ l .wear)
    · exact .refl s

theorem State.acceptOutbound_spares (s : State) (l : Link) (k : KeySlot) (n : Nat) {work : SlotBinding → Nat → Work}
    (untaken : ∀ slot q, (work slot q).Untaken) : s.Spares (some l) (s.acceptOutbound l k n work) :=
  (((s.setKeys_spares l _).trans (State.append_spares _ l (untaken _ _))).trans
    ((State.onEntry_spares _ l _).trans (State.onRenewal_spares _ l _))).trans (State.softCross_spares _ l _)

theorem State.refuseForWear_spares (s : State) (l : Link) (k : KeySlot) : s.Spares (some l) (s.refuseForWear l k) := by
  have reported := s.occurrence_spares l .spent (some k.epoch) none
  unfold State.refuseForWear
  dsimp only
  split
  · exact reported.trans (State.trigger_spares _ l .spent)
  · exact reported

theorem State.requestTraffic_spares (s : State) (l : Link) {work : SlotBinding → Nat → Work}
    (untaken : ∀ slot q, (work slot q).Untaken) : s.Spares (some l) (s.requestTraffic l work) := by
  unfold State.requestTraffic
  split
  · exact .refl s
  · next k _ =>
    split
    · exact s.acceptOutbound_spares l k 0 untaken
    · exact s.refuseForWear_spares l k
    · exact .refl s
    · exact .refl s

theorem State.requestBeat_spares (s : State) (l : Link) : s.Spares (some l) (s.requestTraffic l .beat) :=
  s.requestTraffic_spares l fun _ _ _ _ => nofun

theorem State.requestProof_spares (s : State) (l : Link) : s.Spares (some l) (s.requestProof l) :=
  s.requestTraffic_spares l fun _ _ _ _ => nofun

theorem State.requestConfirm_spares (s : State) (l : Link) : s.Spares (some l) (s.requestConfirm l) := by
  unfold State.requestConfirm
  split
  · exact s.occurrence_spares l .beatSkip none none
  all_goals exact s.requestBeat_spares l

/-! ## The expiries and requests of a tick -/

theorem State.expireBeat_spares (s : State) (l : Link) : s.Spares (some l) (s.expireBeat l) := by
  unfold State.expireBeat
  split
  · exact .refl s
  · split
    · unfold State.takeBeatExpiry
      dsimp only
      split
      · exact s.requestBeat_spares l
      · exact (s.occurrence_spares l .beatSkip none none).trans (State.onEntry_spares _ l _)
      · exact (s.requestBeat_spares l).trans (State.onEntry_spares _ l _)
      · exact s.onEntry_spares l _
    · exact .refl s

theorem State.takeClaim_spares (s : State) (l : Link) : s.Spares (some l) (s.takeClaim l) := by
  have taken := s.onRenewal_spares l fun c => { c with claimDue := false }
  unfold State.takeClaim
  dsimp only
  split
  · exact taken.trans (State.requestOffer_spares _ l)
  · exact taken.trans (State.requestAsk_spares _ l)
  · exact taken.trans (State.retryOffer_spares _ l)
  · exact taken.trans (State.retryAsk_spares _ l)
  all_goals exact taken

theorem State.takePreparing_spares (s : State) (l : Link) : s.Spares (some l) (s.takePreparing l) := by
  unfold State.takePreparing
  split
  · exact s.takeClaim_spares l
  · exact .refl s

theorem State.takeAsking_spares (s : State) (l : Link) : s.Spares (some l) (s.takeAsking l) := by
  unfold State.takeAsking
  split
  · exact s.takeClaim_spares l
  · exact .refl s

theorem State.takeRetry_spares (s : State) (l : Link) : s.Spares (some l) (s.takeRetry l) := by
  unfold State.takeRetry
  split
  · exact s.takeClaim_spares l
  · exact .refl s

theorem State.takeConfirm_spares (s : State) (l : Link) : s.Spares (some l) (s.takeConfirm l) := by
  unfold State.takeConfirm
  split
  · exact (s.onRenewal_spares l _).trans (State.requestConfirm_spares _ l)
  · exact .refl s

theorem State.expireOffer_spares (s : State) (l : Link) : s.Spares (some l) (s.expireOffer l) := by
  have stopped : s.Spares (some l) (s.stopStep l) := s.onRenewal_spares l _
  unfold State.expireOffer
  split
  · exact .refl s
  · split
    · split
      · exact stopped.trans (State.retryOffer_spares _ l)
      · exact stopped.trans (State.failRound_spares _ l)
    · exact .refl s

theorem State.expireAsk_spares (s : State) (l : Link) : s.Spares (some l) (s.expireAsk l) := by
  have stopped : s.Spares (some l) (s.stopStep l) := s.onRenewal_spares l _
  unfold State.expireAsk
  split
  · exact .refl s
  · split
    · split
      · exact stopped.trans (State.retryAsk_spares _ l)
      · exact stopped.trans (State.failRound_spares _ l)
    · exact .refl s

theorem State.expireRest_spares (s : State) (l : Link) : s.Spares (some l) (s.expireRest l) := by
  unfold State.expireRest
  split
  · split
    · exact s.startRound_spares l
    · exact s.onRenewal_spares l _
  · exact .refl s

theorem State.expireRenewal_spares (s : State) (l : Link) : s.Spares (some l) (s.expireRenewal l) := by
  unfold State.expireRenewal
  split
  · exact .refl s
  · split
    · exact (((s.onRenewal_spares l _).trans (State.occurrence_spares _ l _ _ none)).trans
        (State.onRenewal_spares _ l _)).trans (State.trigger_spares _ l .due)
    · exact .refl s

theorem State.expireSilence_spares (s : State) (l : Link) : s.Spares (some l) (s.expireSilence l) := by
  unfold State.expireSilence
  split
  · exact .refl s
  · next e _ =>
    split
    · have reported := (s.setEntry_spares l e.silent).trans (State.occurrence_spares _ l .silent none none)
      dsimp only
      split
      · exact reported.trans (State.trigger_spares _ l .loss)
      · exact reported
    · exact .refl s

/-! ## Contested slots -/

theorem State.takeControlClaim_spares (s : State) (c : ControlClaim) :
    s.Spares (some c.link) (s.takeControlClaim c) := by
  cases c with
  | beat l => exact s.expireBeat_spares l
  | preparing l => exact s.takePreparing_spares l
  | asking l => exact s.takeAsking_spares l
  | retry l => exact s.takeRetry_spares l
  | confirm l => exact s.takeConfirm_spares l
  | offerTimer l => exact s.expireOffer_spares l
  | askTimer l => exact s.expireAsk_spares l
  | restTimer l => exact s.expireRest_spares l
  | renewalTimer l => exact s.expireRenewal_spares l
  | silence l => exact s.expireSilence_spares l

/-- No control request of a vacant link is due. -/
theorem State.not_vacant_of_due {c : ControlClaim} (due : c ∈ s.dueClaims) : ¬ s.Vacant c.link := by
  intro h
  have entry := h.entry
  have renewal := h.renewal
  rw [State.mem_dueClaims] at due
  cases c <;> simp only [ControlClaim.link] at entry renewal <;>
    simp [State.isDue, State.claimsIn, State.retryDue, State.confirmDue, State.stepExpired, entry, renewal,
      RenewalContext.initial] at due

theorem State.serveOne_spares (s : State) {claims : List ControlClaim} (due : ∀ c ∈ claims, ¬ s.Vacant c.link)
    (n : Nat) : s.Spares own (s.serveOne claims n) := by
  unfold State.serveOne
  split
  · next c found => exact (s.takeControlClaim_spares c).all (due c (List.mem_of_getElem? found))
  · unfold State.serveLowest
    split
    · exact .refl s
    · next owed => exact State.noticeOwed_spares owed

theorem serveContested_spares (fuel : Nat) (s : State) : s.Spares own (serveContested fuel s) := by
  induction fuel generalizing s with
  | zero => exact s.serveOwed_spares
  | succ fuel ih =>
    unfold serveContested
    split
    · exact .refl s
    · exact s.serveOwed_spares
    · next c cs _ claims =>
      split
      · have due : ∀ x ∈ c :: cs, ¬ s.chosen.Vacant x.link := fun x hx =>
          State.not_vacant_of_due (s := s.chosen) (claims ▸ hx)
        exact (s.chosen_spares.trans (State.serveOne_spares _ due _)).trans (ih _)
      · exact .refl s

theorem State.serveFreed_spares (s : State) : s.Spares own s.serveFreed := serveContested_spares _ s

theorem contestSlots_spares {request : State → State} (h : ∀ u : State, u.Spares own (request u)) (l : Link)
    (fuel : Nat) (s : State) : s.Spares own (contestSlots l request fuel s) := by
  induction fuel generalizing s with
  | zero => exact h s
  | succ fuel ih =>
    unfold contestSlots
    dsimp only
    split
    · split
      · exact s.chosen_spares.trans (h _)
      · have due : ∀ c ∈ s.otherClaims l, ¬ s.chosen.Vacant c.link := fun c hc =>
          State.not_vacant_of_due (s := s.chosen) (List.mem_of_mem_filter hc)
        exact (s.chosen_spares.trans (State.serveOne_spares _ due _)).trans (ih _)
    · exact h s

theorem State.contest_spares {request : State → State} (h : ∀ u : State, u.Spares own (request u)) (s : State)
    (l : Link) : s.Spares own (s.contest l request) := by
  unfold State.contest
  split
  · exact (contestSlots_spares h l _ s).trans (State.serveReleased_spares _)
  · exact h s

/-! ## Verdicts, promotion and installation -/

theorem State.badVerdict_spares (s : State) (l : Link) : s.Spares (some l) (s.badVerdict l) := by
  unfold State.badVerdict
  split
  · exact .refl s
  · split
    · have lost := fun e => (s.setEntry_spares l e).trans (State.occurrence_spares _ l .loss none none)
      unfold State.loseLock
      dsimp only
      split
      · exact (lost _).trans (State.trigger_spares _ l .loss)
      · exact lost _
    · exact s.setEntry_spares l _

theorem State.promote_spares (s : State) (l : Link) (e : LinkEntry) : s.Spares (some l) (s.promote l e) := by
  have moved := (s.setKeys_spares l ((s.keySet l).promote e.policy.graceTicks)).trans
    (State.setEntry_spares _ l (e.promoted (s.outboundSlot l).isSome))
  unfold State.promote
  dsimp only
  split
  · exact moved.trans (State.onRenewal_spares _ l _)
  · exact ((moved.trans (State.onRenewal_spares _ l _)).trans (State.withdraw_spares _ l _)).trans
      (State.contest_spares (fun u => u.requestConfirm_spares l) _ l)

theorem State.installOffer_spares (s : State) (l : Link) (e : LinkEntry) (x : OfferText) :
    s.Spares (some l) (s.installOffer l e x) := by
  have lost : ∀ (b : Bool) (u : State), u.Spares (some l) (if b = true then u.loseCurrent l else u) := by
    intro b u
    split
    · exact (u.onEntry_spares l _).trans (State.onRenewal_spares _ l _)
    · exact .refl u
  have installed := fun k b => (s.setKeys_spares l k).trans (lost b _)
  unfold State.installOffer
  dsimp only
  split
  · exact installed _ _
  · split
    · exact (installed _ _).trans (State.onEntry_spares _ l _)
    · exact installed _ _

theorem State.releaseActs_spares (s : State) (l : Link) (content : RootContent) :
    s.Spares (some l) (s.releaseActs l content) := by
  cases content with
  | ask reason => exact (s.onRenewal_spares l _).trans (State.trigger_spares _ l reason)
  | offer x =>
    change s.Spares (some l) (s.validOffer l x)
    unfold State.validOffer
    split
    · exact .refl s
    · next e _ =>
      split
      · exact .refl s
      · exact (((s.installOffer_spares l e x).trans (State.onRenewal_spares _ l _)).trans
          (State.withdraw_spares _ l _)).trans (State.contest_spares (fun u => u.requestProof_spares l) _ l)

end Sys2Proof.Machine
end

section
/-! PROOFS. What every command keeps (`State.Keeps`, `step_keeps`): CLOSED links hold nothing, their entries bound exactly
to attached links (R74, R114, R138), and no stored ceiling and no out-counter falls (R80). -/

namespace Sys2Proof.Machine

open Sys2Proof

variable {s t u : State} {l : Link} {own : Option Link}

/-! ## What a command keeps -/

/-- Every CLOSED link is vacant. -/
def State.Tidy (s : State) : Prop := ∀ l, s.entry l = none → s.Vacant l

/-- L is at most S, and the write in progress carries no lower one (R72, R84). -/
structure State.Counted (s : State) : Prop where
  counter : ∀ e, (s.root e).outCounter ≤ (s.root e).stored.ceiling
  write : ∀ w, s.nvWrite = some w → (s.root w.entry).stored.ceiling ≤ w.image.ceiling

theorem State.RootsSound.counted (h : s.RootsSound) : s.Counted where
  counter e := (h.1 e).1
  write w hw := (h.2.1 w hw).1

/-- From `s` to `t` no S and no L has fallen, and a counter that has been taken is a new one (R80). -/
structure State.CountsOn (s t : State) : Prop where
  stored : ∀ e, (s.root e).stored.ceiling ≤ (t.root e).stored.ceiling
  counter : ∀ e, (s.root e).outCounter ≤ (t.root e).outCounter
  taken : ∀ e, ∀ j ∈ t.pool, ∀ n, j.work.claim = some (e, .taken n) →
    j ∈ s.pool ∨ (s.root e).outCounter < n ∧ n ≤ (t.root e).outCounter

/-- What every command keeps: CLOSED links are vacant, and the root counters do not fall. -/
structure State.Keeps (s t : State) : Prop where
  tidy : s.Tidy → t.Tidy
  counts : s.Counted → s.CountsOn t

theorem State.Spares.countsOn (h : s.Spares own t) : s.CountsOn t where
  stored e := by rw [(h.counters e).1]
  counter e := by rw [(h.counters e).2]
  taken e j hj n claim := .inl (h.taken j hj e n claim)

theorem State.Spares.keeps (h : s.Spares none t) : s.Keeps t where
  tidy tidy m closed := h.vacant m nofun (tidy m (h.attached m closed))
  counts _ := h.countsOn

/-- The link that is not spared is attached in the end. -/
theorem State.Spares.keeps_of_entry (h : s.Spares (some l) t) (attached : t.entry l ≠ none) : s.Keeps t where
  tidy tidy m closed := h.vacant m (fun same => attached (Option.some.inj same ▸ closed)) (tidy m (h.attached m closed))
  counts _ := h.countsOn

theorem State.Keeps.of_eq (same : t.guarded = s.guarded) : s.Keeps t := (State.Spares.of_eq same).keeps

theorem State.Keeps.refl (s : State) : s.Keeps s := .of_eq rfl

theorem State.CountsOn.trans (h : s.CountsOn t) (k : t.CountsOn u) : s.CountsOn u where
  stored e := (h.stored e).trans (k.stored e)
  counter e := (h.counter e).trans (k.counter e)
  taken e j hj n claim := by
    rcases k.taken e j hj n claim with old | ⟨above, upTo⟩
    · exact (h.taken e j old n claim).imp id fun new => ⟨new.1, new.2.trans (k.counter e)⟩
    · exact .inr ⟨(h.counter e).trans_lt above, upTo⟩

theorem State.Keeps.spares (h : s.Keeps t) (k : t.Spares none u) : s.Keeps u where
  tidy tidy := k.keeps.tidy (h.tidy tidy)
  counts counted := (h.counts counted).trans k.countsOn

/-- What is not guarded has moved before, but for the write in progress. -/
theorem State.Keeps.since (h : u.Keeps t) (same : u.guarded = s.guarded) (write : u.nvWrite = s.nvWrite) :
    s.Keeps t where
  tidy tidy := h.tidy ((State.Keeps.of_eq same).tidy tidy)
  counts counted := by
    have here : s.CountsOn u := (State.Spares.of_eq (own := none) same).countsOn
    have roots : u.roots = s.roots := congrArg (·.2.2.2.2.2.2) same
    exact here.trans (h.counts ⟨fun e => by simpa only [State.root, roots] using counted.counter e,
      fun w hw => by simpa only [State.root, roots] using counted.write w (write ▸ hw)⟩)

/-! ## The port and the fault monitor -/

theorem State.beginTransaction_spares (s : State) (lead : Byte) : s.Spares own (s.beginTransaction lead) := by
  unfold State.beginTransaction
  split <;> exact .of_eq rfl

theorem State.endRead_spares (s : State) (shifted : Nat) : s.Spares own (s.endRead shifted) := by
  have removed : ∀ u : State, u.Spares own u.removeHead := by
    intro u
    unfold State.removeHead
    split
    · exact .refl u
    · split
      · exact (State.serveFreed_spares _).since rfl
      · exact .of_eq rfl
  unfold State.endRead
  split
  · exact .refl s
  · split
    · exact (removed { s with reading := none }).since rfl
    · exact .of_eq rfl

theorem State.takeUnknown_spares (s : State) : s.Spares own s.takeUnknown := by
  unfold State.takeUnknown
  split
  · exact .refl s
  · split <;> exact .of_eq rfl

theorem takeHello_spares (r : Request) (s : State) : s.Spares own (takeHello r s) := by
  unfold takeHello
  split <;> exact .of_eq rfl

theorem takeStatus_spares (r : Request) (s : State) : s.Spares own (takeStatus r s) := by
  unfold takeStatus
  split <;> exact s.place_spares _

/-- The pending state of a link judged again after a change of its fault record. -/
theorem State.judgeFaults_spares (s : State) (l : Link) (f : FaultRecord → FaultRecord) (before : Bool) :
    s.Spares (some l) ((s.onFaults l f).judgePending l before) :=
  (s.onFaults_spares l f).trans (State.judgePending_spares _ l before)

theorem takeFaultClear_spares (r : Request) (s : State) : s.Spares own (takeFaultClear r s) := by
  unfold takeFaultClear
  split
  · exact s.place_spares _
  · split
    · exact s.place_spares _
    · next attached =>
      unfold State.faultClear
      split
      · exact s.place_spares _
      · exact ((s.judgeFaults_spares _ _ _).trans (State.place_spares _ _)).all
          (State.not_vacant_of_entry (State.entry_of_attachedLink attached))

theorem takeFaultEnable_spares (r : Request) (s : State) : s.Spares own (takeFaultEnable r s) := by
  unfold takeFaultEnable
  split
  · exact s.place_spares _
  · split
    · exact s.place_spares _
    · next attached =>
      exact ((s.judgeFaults_spares _ _ _).trans (State.place_spares _ _)).all
        (State.not_vacant_of_entry (State.entry_of_attachedLink attached))

theorem takeCounterSet_spares (r : Request) (s : State) : s.Spares own (takeCounterSet r s) := by
  unfold takeCounterSet
  split
  · exact s.place_spares _
  · split
    · exact s.place_spares _
    · next attached =>
      exact ((s.onFaults_spares _ _).trans (State.place_spares _ _)).all
        (State.not_vacant_of_entry (State.entry_of_attachedLink attached))

/-- A vacant link is not pending in any notice mode (R143). -/
theorem State.Vacant.isPending (h : s.Vacant l) : s.isPending l = false := by
  simp [State.isPending, h.faults, FaultRecord.meets, FaultRecord.initial, FaultSet.meets]

theorem State.Vacant.of_eq (h : s.Vacant l) (same : t.guarded = s.guarded) : t.Vacant l :=
  (State.Spares.of_eq (own := none) same).vacant l nofun h

theorem FaultFrame.spares (h : FaultFrame s t) (vacant : ∀ m, s.Vacant m → t.Vacant m) : s.Spares own t where
  attached m x := (h.entry m).symm.trans x
  vacant m _ := vacant m
  taken j hj _ _ _ := h.pool ▸ hj
  counters e := by simp only [h.root, and_self]

theorem judgeLinks_frame (before : State) (ls : List Link) (s : State) : FaultFrame s (judgeLinks before ls s) := by
  induction ls generalizing s with
  | nil => exact .refl s
  | cons l rest ih => exact (s.judgePending_frame l _).trans (ih _)

/-- A link that was vacant before the notice mode changed is judged not pending, as it was (R149). -/
theorem judgeLinks_vacant {before : State} (ls : List Link) (still : ∀ m, before.Vacant m → s.Vacant m) :
    ∀ m, before.Vacant m → (judgeLinks before ls s).Vacant m := by
  induction ls generalizing s with
  | nil => exact still
  | cons l rest ih =>
    refine ih fun m vacant => ?_
    by_cases here : before.Vacant l
    · have unmoved : s.judgePending l (before.isPending l) = s := by
        simp only [State.judgePending, here.isPending, (still l here).isPending]
      rw [unmoved]
      exact still m vacant
    · exact (s.judgePending_spares l _).vacant m (fun same => here (Option.some.inj same ▸ vacant)) (still m vacant)

theorem State.setMode_spares (s : State) (mode : NoticeMode) : s.Spares own (s.setMode mode) := by
  have same : s.Spares own { s with noticeMode := mode } := .of_eq rfl
  refine same.trans ((judgeLinks_frame s _ _).spares fun m vacant => ?_)
  exact judgeLinks_vacant (s := { s with noticeMode := mode }) (before := s) _ (fun _ h => h.of_eq rfl) m
    (vacant.of_eq rfl)

theorem takeNoticeMode_spares (r : Request) (s : State) : s.Spares own (takeNoticeMode r s) := by
  unfold takeNoticeMode
  split
  · exact s.place_spares _
  · exact (s.setMode_spares _).trans (State.place_spares _ _)
  · split
    · exact s.place_spares _
    · exact (s.setMode_spares _).trans (State.place_spares _ _)

theorem takeLogRead_spares (r : Request) (s : State) : s.Spares own (takeLogRead r s) := by
  unfold takeLogRead
  split
  · exact s.place_spares _
  · exact .of_eq rfl

/-! ## The link supervisor's requests -/

theorem onAttached_keeps {f : Request → Link → LinkEntry → State → State} (r : Request) (s : State)
    (h : ∀ l e, s.entry l = some e → s.Keeps (f r l e s)) : s.Keeps (onAttached f r s) := by
  unfold onAttached
  split
  · exact (s.place_spares _).keeps
  · split
    · exact (s.place_spares _).keeps
    · next attached => exact h _ _ (State.entry_of_attachedLink attached)

theorem State.detachLink_keeps {e : LinkEntry} (s : State) (l : Link) : s.Keeps (s.detachLink l e) := by
  rw [State.detachLink_eq]
  refine State.Keeps.spares ?_ (State.serveFreed_spares _)
  have links : ∀ m, m ≠ l → (s.droppedLink l e).entry m = s.entry m := fun m hm => Table.look_put_ne s.links l m _ hm
  refine ⟨fun tidy m closed => ?_, fun _ => ⟨fun n => ?_, fun n => ?_, fun n j hj k _ => .inl ?_⟩⟩
  · have owed : m ∈ (s.droppedLink l e).owed → m ∈ s.owed ∧ m ≠ l := fun h => by
      simpa [State.droppedLink] using h
    have jobs : ∀ j ∈ (s.droppedLink l e).pool, j ∈ s.pool ∧ j.link ≠ l := fun j h => by
      simpa [State.droppedLink] using h
    by_cases same : m = l
    · subst same
      exact ⟨closed, Table.look_put_same .., Table.look_put_same .., Table.look_put_same .., fun h => (owed h).2 rfl,
        fun j hj => (jobs j hj).2⟩
    · have vacant := tidy m ((links m same).symm.trans closed)
      exact ⟨closed, (Table.look_put_ne _ _ _ _ same).trans vacant.keys,
        (Table.look_put_ne _ _ _ _ same).trans vacant.renewal, (Table.look_put_ne _ _ _ _ same).trans vacant.faults,
        fun h => vacant.owed (owed h).1, fun j hj => vacant.jobs j (jobs j hj).1⟩
  · by_cases same : n = e.rootEntry <;> simp [State.droppedLink, State.root, same]
  · by_cases same : n = e.rootEntry <;> simp [State.droppedLink, State.root, same]
  · exact List.mem_of_mem_filter hj

/-- An accepted ATTACH moves nothing of another link, and leaves its own attached (R118). -/
theorem State.attachLink_spares (s : State) (l : Link) (e : EntryNo) (c : RootContents) (items : List PolicyItem) :
    s.Spares (some l) (s.attachLink l e c items) ∧ (s.attachLink l e c items).entry l ≠ none := by
  have bound : s.Spares (some l) (s.setRoot e { s.root e with bound := some l }) := State.setRoot_spares rfl rfl
  have entered := (bound.trans (State.setEntry_spares _ l (attachedEntry e c items))).trans
    (State.onFaults_spares _ l fun _ => FaultRecord.initial)
  have triggered := State.trigger_spares (((s.setRoot e { s.root e with bound := some l }).setEntry l
    (some (attachedEntry e c items))).setFaults l FaultRecord.initial) l .start
  refine ⟨entered.trans triggered, fun closed => ?_⟩
  have closed := triggered.attached l closed
  rw [State.setFaults_entry, State.entry_setEntry_same] at closed
  contradiction

theorem takeAttach_keeps (r : Request) (s : State) : s.Keeps (takeAttach r s) := by
  have placed := fun f => (s.place_spares (own := none) f).keeps
  unfold takeAttach
  split
  · exact placed _
  · next b e items _ =>
    split
    · exact placed _
    · next l _ =>
      split
      · exact placed _
      · split
        · exact placed _
        · next c _ =>
          split
          · exact placed _
          · obtain ⟨spared, attached⟩ := s.attachLink_spares l e c items
            exact (spared.keeps_of_entry attached).spares ((State.place_spares _ _).trans (State.serveFreed_spares _))

theorem takePolicy_spares (r : Request) (s : State) : s.Spares own (takePolicy r s) := by
  unfold takePolicy
  split
  · exact s.place_spares _
  · split
    · exact s.place_spares _
    · next attached =>
      exact ((s.setEntry_spares _ _).trans (State.place_spares _ _)).all
        (State.not_vacant_of_entry (State.entry_of_attachedLink attached))

theorem takeLinkRead_spares (r : Request) (s : State) : s.Spares own (takeLinkRead r s) := by
  unfold takeLinkRead
  split
  · exact s.place_spares _
  · split
    · exact s.place_spares _
    · split <;> exact s.place_spares _

theorem takeRenew_keeps (r : Request) (s : State) : s.Keeps (takeRenew r s) := by
  refine onAttached_keeps r s fun l e entry => ?_
  split
  · exact (((s.trigger_spares l .host).all (State.not_vacant_of_entry entry)).trans
      ((State.place_spares _ _).trans (State.serveFreed_spares _))).keeps
  · exact (s.place_spares _).keeps

/-! ## The record engine -/

theorem takeEncipher_spares (r : Request) (s : State) : s.Spares own (takeEncipher r s) := by
  unfold takeEncipher
  split
  · exact s.place_spares _
  · next b payload _ =>
    split
    · exact s.place_spares _
    · next l e attached =>
      have here := State.not_vacant_of_entry (State.entry_of_attachedLink attached)
      split
      · exact s.place_spares _
      · next k _ =>
        split
        · exact s.place_spares _
        · split
          · have accepted := s.acceptOutbound_spares l k payload.length
              (work := fun slot sequence => .encipher r.tag slot sequence payload) fun _ _ _ _ => nofun
            exact (accepted.trans (State.serveFreed_spares _)).all here
          · exact (((s.refuseForWear_spares l k).trans (State.place_spares _ _)).trans (State.serveFreed_spares _)).all
              here

theorem State.dropAtHeader_spares (s : State) (r : Request) (l : Link) (e : LinkEntry) (record : List Byte)
    (k : FaultKind) : s.Spares (some l) (s.dropAtHeader r l e record k) := by
  unfold State.dropAtHeader
  dsimp only
  refine State.Spares.trans (State.Spares.trans ?_ (State.place_spares _ _)) (State.serveFreed_spares _)
  split
  · exact s.occurrence_spares l k _ _
  · split
    · split
      · exact (s.chosen_spares.trans (State.occurrence_spares _ l k _ _)).trans (State.badVerdict_spares _ l)
      · exact (s.chosen_spares.trans (State.badVerdict_spares _ l)).trans (State.occurrence_spares _ l k _ _)
    · exact (s.occurrence_spares l k _ _).trans (State.badVerdict_spares _ l)

theorem State.acceptDecipher_spares (s : State) (r : Request) (l : Link) {work : Work} (untaken : work.Untaken) :
    s.Spares (some l) (s.acceptDecipher r l work) := by
  unfold State.acceptDecipher
  split
  · exact s.append_spares l untaken
  · exact s.place_spares _

theorem State.checkHeader_spares (s : State) (r : Request) (l : Link) (e : LinkEntry) (record : List Byte) :
    s.Spares (some l) (s.checkHeader r l e record) := by
  unfold State.checkHeader
  split
  · exact s.dropAtHeader_spares r l e record .form
  · split
    · split
      · exact s.dropAtHeader_spares r l e record .form
      · exact s.acceptDecipher_spares r l fun _ _ => nofun
    · split
      · exact s.dropAtHeader_spares r l e record .epoch
      · split
        · exact s.dropAtHeader_spares r l e record .epoch
        · exact s.acceptDecipher_spares r l fun _ _ => nofun

theorem takeDecipher_spares (r : Request) (s : State) : s.Spares own (takeDecipher r s) := by
  unfold takeDecipher
  split
  · exact s.place_spares _
  · split
    · exact s.place_spares _
    · next attached =>
      exact (s.checkHeader_spares r _ _ _).all (State.not_vacant_of_entry (State.entry_of_attachedLink attached))

theorem State.finishLane_spares (s : State) (lane : Lane) (l : Link) : s.Spares (some l) (s.finishLane lane l) :=
  ((s.removeLane_spares lane).trans (State.settleFirst_spares _ l)).trans (State.serveFreed_spares _)

/-- The link of the job of a lane is not vacant. -/
theorem State.not_vacant_of_laneJob {lane : Lane} {j : Job} (found : s.laneJob lane = some j) : ¬ s.Vacant j.link :=
  State.not_vacant_of_job (List.mem_of_find?_eq_some found)

theorem State.completeEncipher_spares (s : State) (lane : Lane) : s.Spares own (s.completeEncipher lane) := by
  unfold State.completeEncipher
  split
  · exact .refl s
  · next j found =>
    split
    · have sealed : ∀ x, s.Spares (some j.link) (s.sealing x) := fun _ => .of_eq rfl
      exact (((sealed _).trans (State.place_spares _ _)).trans (State.finishLane_spares _ lane _)).all
        (State.not_vacant_of_laneJob found)
    · exact .refl s

theorem State.dropInbound_spares (s : State) (l : Link) (k : FaultKind) (record : List Byte) :
    s.Spares (some l) (s.dropInbound l k record) :=
  (s.badVerdict_spares l).trans (State.occurrence_spares _ l k _ _)

theorem State.acceptInbound_spares (s : State) (l : Link) (e : LinkEntry) (role : SlotRole) (k : KeySlot)
    (record : List Byte) : s.Spares (some l) (s.acceptInbound l e role k record) := by
  have crossed := fun keys => (s.setKeys_spares l keys).trans (State.softCross_spares _ l role)
  unfold State.acceptInbound
  dsimp only
  refine State.Spares.trans ?_ (State.onEntry_spares _ l LinkEntry.good)
  split
  · exact (crossed _).trans (State.promote_spares _ l e)
  · exact crossed _

theorem State.judgeTraffic_spares (s : State) (l : Link) (e : LinkEntry) (slot : SlotBinding) (record : List Byte) :
    s.Spares (some l) (s.judgeTraffic l e slot record).1 := by
  unfold State.judgeTraffic
  split
  · exact s.dropInbound_spares l .tag record
  · split
    · exact s.dropInbound_spares l .epoch record
    · split
      · exact s.dropInbound_spares l .epoch record
      · split
        · exact s.acceptInbound_spares l e _ _ record
        · unfold State.dropDuplicate
          split
          · exact s.dropInbound_spares l .replay record
          · exact s.onFaults_spares l fun r => r.countKind .replay
        · exact s.dropInbound_spares l .late record

theorem State.completeTraffic_spares (s : State) (lane : Lane) : s.Spares own (s.completeTraffic lane) := by
  unfold State.completeTraffic
  split
  · exact .refl s
  · next found =>
    split
    · exact (((s.judgeTraffic_spares _ _ _ _).trans (State.place_spares _ _)).trans
        (State.finishLane_spares _ lane _)).all (State.not_vacant_of_laneJob found)
    · exact .refl s

/-- A job that has taken no counter changes its state. -/
theorem State.Spares.of_state {before after : List Job} {j : Job} (pool : s.pool = before ++ j :: after)
    (state : JobState) (untaken : j.work.Untaken) :
    s.Spares own { s with pool := before ++ { j with state := state } :: after } := by
  refine .of_pool _ fun i hi => ?_
  rw [pool]
  simp only [List.mem_append, List.mem_cons] at hi ⊢
  rcases hi with h | rfl | h
  · exact .inl (.inl h)
  · exact .inr ⟨untaken, .inr ⟨j, .inr (.inl rfl), rfl⟩⟩
  · exact .inl (.inr (.inr h))

theorem State.completeRoot_spares (s : State) (lane : Lane) : s.Spares own (s.completeRoot lane) := by
  unfold State.completeRoot
  split
  · exact .refl s
  · next j found =>
    split
    · next e tag root record _ work =>
      split
      · next k _ =>
        exact (((s.occurrence_spares j.link k _ _).trans (State.place_spares _ _)).trans
          (State.finishLane_spares _ lane _)).all (State.not_vacant_of_laneJob found)
      · next content _ =>
        obtain ⟨before, after, inLane⟩ := State.inLane_of_laneJob found
        have held := State.Spares.of_state (own := own) inLane.1 (.held content) fun _ _ => by rw [work]; nofun
        unfold State.holdRoot
        dsimp only
        rw [inLane.changeFirst]
        refine State.Spares.trans (held.trans ?_) (State.requestWrite_spares _ _)
        exact State.setRoot_spares rfl rfl
    · exact .refl s

theorem State.completeControl_spares (s : State) (lane : Lane) : s.Spares own (s.completeControl lane) := by
  unfold State.completeControl
  split
  · exact .refl s
  · next j found =>
    split
    · exact .refl s
    · split
      · exact .refl s
      · next x _ =>
        have sealed : s.Spares (some j.link) (s.sealing x) := .of_eq rfl
        exact (((sealed.trans (State.place_spares _ _)).trans (State.onRenewal_spares _ j.link _)).trans
          (State.finishLane_spares _ lane _)).all (State.not_vacant_of_laneJob found)

/-- A root entry keeps its S and its L or raises them. -/
theorem State.setRoot_keeps {e : EntryNo} {r : RootEntry}
    (stored : s.Counted → (s.root e).stored.ceiling ≤ r.stored.ceiling)
    (counter : s.Counted → (s.root e).outCounter ≤ r.outCounter) : s.Keeps (s.setRoot e r) where
  tidy tidy m closed :=
    have vacant := tidy m closed
    ⟨closed, vacant.keys, vacant.renewal, vacant.faults, vacant.owed, vacant.jobs⟩
  counts counted := by
    refine ⟨fun n => ?_, fun n => ?_, fun n j hj k _ => .inl hj⟩ <;> by_cases same : n = e
    · subst same; rw [State.root_setRoot_same]; exact stored counted
    · rw [State.root_setRoot_ne s e n r same]
    · subst same; rw [State.root_setRoot_same]; exact counter counted
    · rw [State.root_setRoot_ne s e n r same]

/-- A grant takes the counter after L, and L with it (R56, R80). -/
theorem State.grantLink_keeps {before after : List Job} {j : Job} (first : s.First l before j after)
    (eligible : j.isEligible = true) (lane : Lane) : s.Keeps (s.grantLink lane l) := by
  obtain ⟨-, ready⟩ := Job.isEligible_iff.mp eligible
  cases claim : j.work.claim with
  | none =>
    rw [first.grantLink_none claim]
    have granted := State.Spares.of_state (own := none) first.1 (.inLane lane) fun _ _ => by rw [claim]; nofun
    exact (granted.trans (u := { s with
      pool := before ++ { j with state := .inLane lane } :: after, pointer := l }) (.of_eq rfl)).keeps
  | some x =>
    obtain ⟨e, c⟩ := x
    rw [first.grantLink_some claim]
    have raised : (s.setRoot e { s.root e with outCounter := (s.root e).outCounter + 1 }).root e =
        { s.root e with outCounter := (s.root e).outCounter + 1 } := State.root_setRoot_same ..
    have moved : s.Keeps (s.setRoot e { s.root e with outCounter := (s.root e).outCounter + 1 }) :=
      State.setRoot_keeps (fun _ => le_rfl) fun _ => Nat.le_succ _
    refine ⟨fun tidy m closed => ?_, fun counted => ?_⟩
    · have vacant := tidy m closed
      refine ⟨closed, vacant.keys, vacant.renewal, vacant.faults, vacant.owed, fun i hi => ?_⟩
      have jobs := vacant.jobs
      rw [first.1] at jobs
      simp only [List.mem_append, List.mem_cons] at hi jobs
      rcases hi with h | rfl | h
      · exact jobs i (.inl h)
      · exact jobs j (.inr (.inl rfl))
      · exact jobs i (.inr (.inr h))
    · have counts := moved.counts counted
      refine ⟨counts.stored, counts.counter, fun n i hi k taken => ?_⟩
      simp only [List.mem_append, List.mem_cons] at hi
      rcases hi with h | rfl | h
      · exact .inl (by simp [first.1, h])
      · cases (Work.claim_withClaim claim _).symm.trans taken
        exact .inr ⟨Nat.lt_succ_self _, (congrArg RootEntry.outCounter raised).ge⟩
      · exact .inl (by simp [first.1, h])

theorem State.grant_keeps (s : State) (lane : Lane) : s.Keeps (s.grant lane) := by
  unfold State.grant
  split
  · next l _ next =>
    have eligible : s.eligible l = true := List.find?_some next
    obtain ⟨j, found, fits⟩ := (Option.any_eq_true _ _).mp eligible
    obtain ⟨before, after, first⟩ := State.first_of_firstJob found
    exact State.grantLink_keeps first fits lane
  · exact .refl s
  · exact .refl s

/-! ## The root store -/

theorem takeRootLoad_keeps (r : Request) (s : State) : s.Keeps (takeRootLoad r s) := by
  have placed := fun f => (s.place_spares (own := none) f).keeps
  unfold takeRootLoad
  split
  · exact placed _
  · next b _ =>
    split
    · exact placed _
    · split
      · exact placed _
      · next key _ =>
        have loaded : s.Keeps (s.setRoot b.entry ((s.root b.entry).load b key)) :=
          State.setRoot_keeps (fun _ => le_rfl) fun counted => counted.counter b.entry
        exact loaded.spares ((State.requestWrite_spares _ _).trans (.of_eq rfl))

theorem takeRootErase_spares (r : Request) (s : State) : s.Spares own (takeRootErase r s) := by
  unfold takeRootErase
  split
  · exact s.place_spares _
  · next e _ =>
    split
    · exact s.place_spares _
    · split
      · exact s.place_spares _
      · have erased : s.Spares own (s.setRoot e { s.root e with contents := none }) := State.setRoot_spares rfl rfl
        exact (erased.trans (State.requestWrite_spares _ e)).trans (.of_eq rfl)

theorem takeRootRead_spares (r : Request) (s : State) : s.Spares own (takeRootRead r s) := by
  unfold takeRootRead
  split <;> exact s.place_spares _

theorem State.reportWrite_spares (s : State) (e : EntryNo) : s.Spares own (s.reportWrite e) := by
  unfold State.reportWrite
  split
  · exact .refl s
  · next l _ =>
    split
    · exact .refl s
    · next j found =>
      have here : ¬ s.Vacant l := by
        obtain ⟨before, after, pool, link, -⟩ := State.first_of_firstJob found
        exact link ▸ State.not_vacant_of_job (by simp [pool])
      split
      · split
        · exact ((((s.releaseActs_spares l _).trans (State.place_spares _ _)).trans
            (State.removeFirst_spares _ l)).trans (State.settleFirst_spares _ l)).all here
        · exact .refl s
      · split
        · split
          · exact s.onFirst_claim_spares l fun _ => nofun
          · exact .refl s
        · exact .refl s
      · exact .refl s

theorem State.landWrite_keeps {w : NvWrite} (write : s.nvWrite = some w) : s.Keeps (s.landWrite w) :=
  State.setRoot_keeps (fun counted => counted.write w write) fun _ => le_rfl

theorem State.finishWrite_keeps {w : NvWrite} (write : s.nvWrite = some w) : s.Keeps (s.finishWrite w) := by
  unfold State.finishWrite
  dsimp only
  refine State.Keeps.spares (t := { s.landWrite w with
    nvWrite := none, nvQueue := s.nvQueue.tail ++ if w.again then [w.entry] else [] }) ?_ ?_
  · exact (State.landWrite_keeps write).spares (.of_eq rfl)
  · have placed : ∀ u : State, u.Spares none (u.placeRootReplies w.entry) := fun _ => .of_eq rfl
    exact (((State.reportWrite_spares _ w.entry).trans (placed _)).trans (State.startWrite_spares _)).trans
      (State.serveFreed_spares _)

/-! ## Restarts and the time base -/

theorem State.cutWrite_keeps (s : State) : s.Keeps s.cutWrite := by
  unfold State.cutWrite
  split
  · exact .refl s
  · next w write =>
    split
    · exact .of_eq rfl
    · exact (State.landWrite_keeps write).spares (.of_eq rfl)

/-- A restart leaves every link CLOSED and vacant, and sets L to S, which it had not passed (R87). -/
theorem State.Keeps.wiped (h : s.Keeps t) (cause : RestartCause) : s.Keeps (t.wiped cause) where
  tidy _ m _ :=
    ⟨Table.look_filled .., Table.look_filled .., Table.look_filled .., Table.look_filled .., List.not_mem_nil,
      fun _ hj => absurd hj List.not_mem_nil⟩
  counts counted := by
    have root : ∀ e, (t.wiped cause).root e = (t.root e).restarted := fun e => Table.look_each ..
    have counts := h.counts counted
    refine ⟨fun e => ?_, fun e => ?_, fun e j hj => absurd hj List.not_mem_nil⟩
    · rw [root]
      exact counts.stored e
    · rw [root]
      exact (counted.counter e).trans (counts.stored e)

theorem State.restart_keeps (s : State) (cause : RestartCause) : s.Keeps (s.restart cause) :=
  s.cutWrite_keeps.wiped cause

theorem State.endTransaction_keeps (s : State) (bytes : List Byte) : s.Keeps (s.endTransaction bytes) := by
  unfold State.endTransaction
  split
  · exact .refl s
  · split
    · split
      · exact .refl s
      · unfold State.judgeFrame
        split
        · exact .of_eq rfl
        · split
          · exact s.restart_keeps .commanded
          · split <;> exact .of_eq rfl
    · exact .refl s
    · exact .refl s

/-- A vacant link has no timer that runs and no request of the tick. -/
theorem State.tick_spares (s : State) : s.Spares own s.tick where
  attached m h := by simpa [State.entry, State.tick] using h
  vacant m _ h := by
    refine ⟨?_, ?_, ?_, h.faults, h.owed, h.jobs⟩
    · have entry : s.tick.entry m = (s.entry m).map LinkEntry.tick := Table.look_each ..
      rw [entry, h.entry, Option.map_none]
    · have keys : s.tick.keySet m = (s.keySet m).tick := Table.look_each ..
      rw [keys, h.keys]
      rfl
    · have renewal : s.tick.renewal m = (s.renewal m).tick := Table.look_each ..
      rw [renewal, h.renewal]
      rfl
  taken _ hj _ _ _ := hj
  counters _ := ⟨rfl, rfl⟩

theorem State.expireGrace_spares (s : State) (l : Link) : s.Spares own (s.expireGrace l) := by
  unfold State.expireGrace
  split
  · next expiring =>
    refine (s.setKeys_spares l _).all fun vacant => ?_
    rw [vacant.keys] at expiring
    contradiction
  · exact .refl s

/-- No event of a vacant link is due, so none is taken. -/
theorem State.Vacant.takeControlClaim {c : ControlClaim} (h : s.Vacant c.link) : s.takeControlClaim c = s := by
  have entry := h.entry
  have renewal := h.renewal
  cases c <;> simp only [ControlClaim.link] at entry renewal <;>
    simp [State.takeControlClaim, State.expireBeat, State.takePreparing, State.takeAsking, State.takeRetry,
      State.takeConfirm, State.expireOffer, State.expireAsk, State.expireRest, State.expireRenewal,
      State.expireSilence, State.claimsIn, State.retryDue, State.confirmDue, State.stepExpired, entry, renewal,
      RenewalContext.initial]

/-- The command of an event that makes a control request (R146). -/
theorem State.controlCommand_spares (s : State) (c : ControlClaim) :
    s.Spares own (s.takeControlClaim c).serveFreed := by
  refine State.Spares.trans ?_ (State.serveFreed_spares _)
  by_cases here : s.Vacant c.link
  · rw [here.takeControlClaim]
    exact .refl s
  · exact (s.takeControlClaim_spares c).all here

/-! ## One step -/

theorem takeRequest_keeps {kind : Byte} {f : Request → State → State} (h : ∀ r u, State.Keeps u (f r u)) (s : State) :
    s.Keeps (takeRequest kind f s) := by
  unfold takeRequest
  split
  · exact .refl s
  · split
    · exact (h _ _).since rfl rfl
    · exact .refl s

theorem act_keeps {f : State → State} (h : ∀ u, State.Keeps u (f u)) (next : act f s = .next t) : s.Keeps t := by
  obtain rfl := Host.Outcome.next.inj next
  split
  · exact h s
  · split
    · split
      · exact .of_eq rfl
      · exact (h _).since rfl rfl
    · exact .refl s

theorem act_spares {f : State → State} (h : ∀ u, State.Spares none u (f u)) (next : act f s = .next t) : s.Keeps t :=
  act_keeps (fun u => (h u).keeps) next

theorem act_takeRequest_keeps {kind : Byte} {f : Request → State → State} (h : ∀ r u, State.Keeps u (f r u))
    (next : act (takeRequest kind f) s = .next t) : s.Keeps t :=
  act_keeps (takeRequest_keeps h) next

theorem act_takeRequest_spares {kind : Byte} {f : Request → State → State} (h : ∀ r u, State.Spares none u (f r u))
    (next : act (takeRequest kind f) s = .next t) : s.Keeps t :=
  act_takeRequest_keeps (fun r u => (h r u).keeps) next

/-- What every command keeps. -/
theorem exec_keeps {c : Instr} (next : exec c s = .next t) : s.Keeps t := by
  have replied : ∀ {f : Request → Link → LinkEntry → State → State}, (∀ r l e u, State.Keeps u (f r l e u)) →
      ∀ r u, State.Keeps u (onAttached f r u) := fun h r u => onAttached_keeps r u fun l e _ => h r l e u
  cases c with
  | frameArrival bytes => exact act_keeps (·.endTransaction_keeps bytes) next
  | readLeadByte => exact act_spares (·.beginTransaction_spares readLead) next
  | readEnd shifted => exact act_spares (·.endRead_spares shifted) next
  | restart => exact act_keeps (·.restart_keeps .commanded) next
  | resetAssert =>
    obtain rfl := Host.Outcome.next.inj next
    split
    · exact s.cutWrite_keeps.spares (.of_eq rfl)
    · exact .of_eq rfl
  | resetRelease =>
    obtain rfl := Host.Outcome.next.inj next
    split
    · split
      · exact (State.restart_keeps _ .pin).since rfl rfl
      · exact .of_eq rfl
    · exact .refl s
  | powerOn =>
    obtain rfl := Host.Outcome.next.inj next
    exact (State.restart_keeps _ .power).since rfl rfl
  | powerLoss =>
    obtain rfl := Host.Outcome.next.inj next
    split
    · exact (s.cutWrite_keeps.wiped s.cause).spares (.of_eq rfl)
    · exact .refl s
  | hello => exact act_takeRequest_spares takeHello_spares next
  | status => exact act_takeRequest_spares takeStatus_spares next
  | unknownKind => exact act_spares State.takeUnknown_spares next
  | rootLoad => exact act_takeRequest_keeps takeRootLoad_keeps next
  | rootErase => exact act_takeRequest_spares takeRootErase_spares next
  | rootRead => exact act_takeRequest_spares takeRootRead_spares next
  | attach => exact act_takeRequest_keeps takeAttach_keeps next
  | detach =>
    exact act_takeRequest_keeps (replied fun _ l _ u => (u.detachLink_keeps l).spares (State.place_spares _ _)) next
  | policy => exact act_takeRequest_spares takePolicy_spares next
  | linkRead => exact act_takeRequest_spares takeLinkRead_spares next
  | keyRead => exact act_takeRequest_keeps (replied fun _ _ _ u => (u.place_spares _).keeps) next
  | renew => exact act_takeRequest_keeps takeRenew_keeps next
  | encipher => exact act_takeRequest_spares takeEncipher_spares next
  | decipher => exact act_takeRequest_spares takeDecipher_spares next
  | faultRead => exact act_takeRequest_keeps (replied fun _ _ _ u => (u.place_spares _).keeps) next
  | faultClear => exact act_takeRequest_spares takeFaultClear_spares next
  | faultEnable => exact act_takeRequest_spares takeFaultEnable_spares next
  | counterSet => exact act_takeRequest_spares takeCounterSet_spares next
  | noticeMode => exact act_takeRequest_spares takeNoticeMode_spares next
  | logRead => exact act_takeRequest_spares takeLogRead_spares next
  | tick => exact act_spares State.tick_spares next
  | graceExpiry l => exact act_spares (·.expireGrace_spares l) next
  | offerTimerExpiry l => exact act_spares (·.controlCommand_spares (.offerTimer l)) next
  | askTimerExpiry l => exact act_spares (·.controlCommand_spares (.askTimer l)) next
  | restTimerExpiry l => exact act_spares (·.controlCommand_spares (.restTimer l)) next
  | renewalTimerExpiry l => exact act_spares (·.controlCommand_spares (.renewalTimer l)) next
  | silenceExpiry l => exact act_spares (·.controlCommand_spares (.silence l)) next
  | beatExpiry l => exact act_spares (·.controlCommand_spares (.beat l)) next
  | preparingOfferRequest l => exact act_spares (·.controlCommand_spares (.preparing l)) next
  | askingAskRequest l => exact act_spares (·.controlCommand_spares (.asking l)) next
  | retryOwedRequest l => exact act_spares (·.controlCommand_spares (.retry l)) next
  | confirmBeatRequest l => exact act_spares (·.controlCommand_spares (.confirm l)) next
  | grant lane => exact act_keeps (·.grant_keeps lane) next
  | encipherCompletion lane => exact act_spares (·.completeEncipher_spares lane) next
  | trafficDecipherCompletion lane => exact act_spares (·.completeTraffic_spares lane) next
  | rootDecipherCompletion lane => exact act_spares (·.completeRoot_spares lane) next
  | controlJobCompletion lane => exact act_spares (·.completeControl_spares lane) next
  | nvWriteStart => exact act_spares State.startWrite_spares next
  | nvWriteCompletion =>
    refine act_keeps (fun u => ?_) next
    unfold State.completeWrite
    split
    · exact .refl u
    · next write => exact State.finishWrite_keeps write

/-- What every step keeps. -/
theorem step_keeps (next : step s = .next t) : s.Keeps t := by
  unfold step at next
  split at next
  · obtain rfl := Host.Outcome.next.inj next
    exact .of_eq rfl
  · exact (exec_keeps next).since rfl rfl

/-- Settles O59: each command raises S and L or leaves them, and a grant takes the counter after L. -/
theorem countersNeverFall : Obligations.CountersNeverFall := by
  unfold Obligations.CountersNeverFall
  intro s t roots next e
  have counts := (step_keeps next).counts roots.counted
  exact ⟨counts.stored e, counts.counter e, counts.taken e⟩

/-! ## Bindings (R74) -/

/-- A root entry is bound to a link exactly while the link is attached to it (R74). -/
def Stores.Bound (x : Stores) : Prop := ∀ l e, x.attached l = some e ↔ (x.root e).bound = some l

section Bound

variable {x y : Stores} (h : x.Bound)

include h

theorem Stores.Bound.put {e : EntryNo} {r : RootEntry} (same : r.bound = (x.root e).bound) :
    (x.setRoot e r).Bound := by
  intro l n
  dsimp only [Stores.setRoot, Stores.root]
  rw [Table.look_put]
  split
  · next entry => rw [same, entry]; exact h l e
  · exact h l n

/-- One entry and one link are bound to each other and to no other, or both to none. -/
theorem Stores.Bound.rebound {l : Link} {e : EntryNo} (entry : ∀ m, m ≠ l → x.attached m ≠ some e)
    (link : ∀ n, n ≠ e → (x.root n).bound ≠ some l) {b : Option Link} {a : Option EntryNo}
    (agree : a = some e ∧ b = some l ∨ a = none ∧ b = none) :
    Stores.Bound { x.setRoot e { x.root e with bound := b } with attached := Function.update x.attached l a } := by
  have both : a = some e ↔ b = some l := by rcases agree with ⟨rfl, rfl⟩ | ⟨rfl, rfl⟩ <;> simp
  have noEntry : ∀ n, n ≠ e → a ≠ some n := by rcases agree with ⟨rfl, -⟩ | ⟨rfl, -⟩ <;> simp [eq_comm]
  have noLink : ∀ m, m ≠ l → b ≠ some m := by rcases agree with ⟨-, rfl⟩ | ⟨-, rfl⟩ <;> simp [eq_comm]
  intro m n
  dsimp only [Stores.setRoot, Stores.root]
  rw [Function.update_apply, Table.look_put]
  split
  · next same =>
    subst same
    split
    · next same => rw [same]; exact both
    · next other => exact iff_of_false (noEntry n other) (link n other)
  · next other =>
    split
    · next same => rw [same]; exact iff_of_false (entry m other) (noLink m other)
    · exact h m n

theorem Shift.bound (change : Shift x y) : y.Bound := by
  cases change with
  | raises e _ => exact h.put rfl
  | notice | logs | loses | accepts | drops | claims | again | joins => exact h

theorem RootEvent.bound (change : RootEvent x y) : y.Bound := by
  cases change with
  | counts e n => exact h.put rfl
  | loads e c n _ => exact h.put rfl
  | erases e _ => exact h.put rfl
  | lands w _ => exact h.put (e := w.entry) rfl
  | cutsNew w _ => exact h.put (e := w.entry) rfl
  | starts | cuts => exact h
  | binds l e closed _ unbound =>
    refine h.rebound (fun m _ attached => ?_) (fun n _ bound => ?_) (.inl ⟨rfl, rfl⟩)
    · exact nomatch unbound.symm.trans ((h m e).mp attached)
    · exact nomatch closed.symm.trans ((h l n).mpr bound)
  | unbinds l e attached _ =>
    have bound := (h l e).mp attached
    refine h.rebound (fun m other same => ?_) (fun n other same => ?_) (.inr ⟨rfl, rfl⟩)
    · exact other (Option.some.inj (((h m e).mp same).symm.trans bound))
    · exact other (Option.some.inj (((h l n).mpr same).symm.trans attached))

theorem Deal.bound {n m : Nat} (change : Deal (x, n) (y, m)) : y.Bound := by
  cases change with
  | shift change => exact change.bound h
  | root change => exact change.bound h
  | grants before j after e _ _ _ => exact h.put (e := e) rfl
  | takes | replies | waits | due | drains | ticks | hosts | leave | emits | state => exact h

theorem Turn.bound (change : Turn x y) : y.Bound := by
  cases change with
  | restarts =>
    intro l e
    have root : x.restarted.root e = (x.root e).restarted := Table.look_each ..
    have closed : x.restarted.attached l = none := congrArg (Option.map _) (State.reset_entry l)
    rw [closed, root]
    exact iff_of_false nofun nofun
  | admits | errs | overruns | reads => exact h

end Bound

theorem State.stores_bound_iff (s : State) :
    s.stores.Bound ↔ ∀ e l, (s.root e).bound = some l ↔ ∃ x, s.entry l = some x ∧ x.rootEntry = e := by
  have attached : ∀ l e, s.stores.attached l = some e ↔ ∃ x, s.entry l = some x ∧ x.rootEntry = e :=
    fun l e => Option.map_eq_some_iff
  exact ⟨fun h e l => (h l e).symm.trans (attached l e), fun h l e => (attached l e).trans (h e l).symm⟩

/-- Settles O53: every change of the stores binds an entry with its link, and every command leaves a CLOSED link
vacant. -/
theorem stepKeepsBindings : Obligations.StepKeepsBindings := by
  unfold Obligations.StepKeepsBindings
  rintro s t ⟨bound, closed⟩ next
  have tidy : s.Tidy := fun l entry => by
    obtain ⟨keys, renewal, faults, owed, jobs⟩ := closed l entry
    exact ⟨entry, keys, renewal, faults, owed, jobs⟩
  have bound : t.stores.Bound := (step_goes next).keeps (p := Stores.Bound)
    (fun run => run.keeps fun change h => change.bound h) (fun change h => change.bound h)
    ((s.stores_bound_iff).mpr bound)
  refine ⟨(t.stores_bound_iff).mp bound, fun l entry => ?_⟩
  have vacant := (step_keeps next).tidy tidy l entry
  exact ⟨vacant.keys, vacant.renewal, vacant.faults, vacant.owed, vacant.jobs⟩

end Sys2Proof.Machine
end

section
/-! PROOFS. The part that is held in restart, starting or without its supply (R86, R168), the root store's requests
(R75, R76, R77) and its NV writes (R84, R85), and ATTACH (R74, R117, R118). -/

namespace Sys2Proof.Machine

open Sys2Proof

variable {s : State} {r : Request} {rest : List Request}

/-! ## The part that takes no command (R86, R168) -/

/-- A cut leaves each stored image old or as the write it cut carried it (R86). -/
theorem State.cutWrite_eq (s : State) : ∃ roots choices, s.ImagesAfterCut roots ∧
    s.cutWrite = { s with nvWrite := none, roots := roots, choices := choices } := by
  unfold State.cutWrite
  split
  · next none => exact ⟨s.roots, s.choices, fun _ => .inl rfl, by rw [← none]⟩
  · next w write =>
    split
    · exact ⟨s.roots, s.choices + 1, fun _ => .inl rfl, rfl⟩
    · refine ⟨(s.landWrite w).roots, s.choices + 1, fun e => ?_, rfl⟩
      by_cases same : e = w.entry
      · subst same
        exact .inr ⟨w, write, rfl, State.root_setRoot_same s w.entry _⟩
      · exact .inl (State.root_setRoot_ne s w.entry e _ same)

/-- A part that is held, without its supply or starting does not operate (R168). -/
theorem State.not_operating (h : s.powered = false ∨ s.resetLow = true ∨ s.starting = true) : s.operating = false := by
  rcases h with h | h | h <;> simp [State.operating, h]

/-- Settles O4: every command but those of the supply and the reset input asks first whether the part operates. -/
theorem heldPart : Obligations.HeldPart := by
  unfold Obligations.HeldPart
  refine ⟨fun c s down assert release on loss => ?held,
    fun c s powered high starting assert release on loss => ?starting, fun s down => ?status, fun s powered => ?assert, fun s off => ?assertOff, fun s off low => ?releaseOff,
    fun s high => ?releaseHigh, fun s off => ?lossOff⟩
  case held =>
    obtain ⟨f, acts⟩ := exec_act assert release on loss
    rw [acts, act_held down]
  case starting =>
    obtain ⟨f, acts⟩ := exec_act assert release on loss
    have startingUp : s.startingUp = true := by simp [State.startingUp, powered, high, starting]
    have ended : State.operating { s.chosen with starting := false } = true := by
      simp [State.operating, powered, high]
    rw [acts, act_starting startingUp]
    split
    · exact .inl rfl
    · exact .inr ((act_next ended).symm.trans (acts _).symm)
  case status => simp [State.statusByte, State.not_operating down]
  case assert =>
    obtain ⟨roots, choices, images, cut⟩ := s.cutWrite_eq
    refine ⟨roots, choices, images, ?_⟩
    simp only [exec, execResetAssert, powered, if_true, State.holdReset, cut]
  case assertOff => simp [exec, execResetAssert, off]
  case releaseOff => simp [exec, execResetRelease, off, low]
  case releaseHigh => simp [exec, execResetRelease, high]
  case lossOff => simp [exec, execPowerLoss, off]

/-! ## ROOT-LOAD (R75, R76) -/

/-- A field is read where it stands. -/
theorem field_of_split {bytes a b c : List Byte} {i w : Nat} (split : bytes = a ++ (b ++ c)) (start : a.length = i)
    (length : b.length = w) : field bytes i w = b := by
  rw [field, split, ← start, ← length, List.drop_left, List.take_left]

theorem roleOf_code (role : Role) : roleOf role.code = some role := by cases role <;> rfl

/-- The bytes of a ROOT-LOAD body (R173, R175). -/
def RootLoadBody.bytes (b : RootLoadBody) : List Byte :=
  byteOf b.entry.val :: beBytes 4 b.shopNumber.toNat ++ [b.role.code] ++ beBytes 12 b.wrapNonce.toNat ++
    b.wrappedKey ++ b.wrapTag ++ beBytes 4 b.floor

theorem ofNat_beNat_beBytes {w k : Nat} (x : BitVec k) (fits : 2 ^ k ≤ 256 ^ w) :
    BitVec.ofNat k (beNat (beBytes w x.toNat)) = x := by
  rw [beNat_beBytes_of_lt (x.isLt.trans_le fits), BitVec.ofNat_toNat, BitVec.setWidth_eq]

/-- A ROOT-LOAD body is read back from its bytes (R173). -/
theorem rootLoadBodyOf_bytes (b : RootLoadBody) (key : b.wrappedKey.length = 32) (tag : b.wrapTag.length = 16)
    (floor : b.floor ≤ 4294967295) : rootLoadBodyOf b.bytes = some b := by
  have entryByte : byteAt b.bytes 0 = byteOf b.entry.val := rfl
  have roleByte : byteAt b.bytes 5 = b.role.code := by
    rw [byteAt, RootLoadBody.bytes]
    simp only [List.cons_append, List.append_assoc, List.getD_cons_succ]
    rw [List.getD_append_right _ _ _ _ (by simp), beBytes_length]
    rfl
  have shop : field b.bytes 1 4 = beBytes 4 b.shopNumber.toNat :=
    field_of_split (a := [byteOf b.entry.val])
      (by simp only [RootLoadBody.bytes, List.append_assoc]; rfl) (by simp) (by simp)
  have nonce : field b.bytes 6 12 = beBytes 12 b.wrapNonce.toNat :=
    field_of_split (a := byteOf b.entry.val :: beBytes 4 b.shopNumber.toNat ++ [b.role.code])
      (by simp only [RootLoadBody.bytes, List.append_assoc]; rfl) (by simp) (by simp)
  have wrapped : field b.bytes 18 32 = b.wrappedKey :=
    field_of_split (a := byteOf b.entry.val :: beBytes 4 b.shopNumber.toNat ++ [b.role.code] ++
      beBytes 12 b.wrapNonce.toNat)
      (by simp only [RootLoadBody.bytes, List.append_assoc]; rfl) (by simp) key
  have wrapTag : field b.bytes 50 16 = b.wrapTag :=
    field_of_split (a := byteOf b.entry.val :: beBytes 4 b.shopNumber.toNat ++ [b.role.code] ++
      beBytes 12 b.wrapNonce.toNat ++ b.wrappedKey)
      (by simp only [RootLoadBody.bytes, List.append_assoc]; rfl) (by simp [key]) tag
  have floorBytes : field b.bytes 66 4 = beBytes 4 b.floor :=
    field_of_split (c := []) (a := byteOf b.entry.val :: beBytes 4 b.shopNumber.toNat ++ [b.role.code] ++
      beBytes 12 b.wrapNonce.toNat ++ b.wrappedKey ++ b.wrapTag) (by simp [RootLoadBody.bytes]) (by simp [key, tag])
      (by simp)
  have length : b.bytes.length = 70 := by simp [RootLoadBody.bytes, key, tag]
  simp only [rootLoadBodyOf, length, if_true, entryByte, numberOf_byteOf, roleByte, roleOf_code, shop, nonce, wrapped,
    wrapTag, floorBytes, ofNat_beNat_beBytes b.shopNumber (w := 4) (by decide),
    ofNat_beNat_beBytes b.wrapNonce (w := 12) (by decide), beNat_beBytes_of_lt (w := 4) (Nat.lt_succ_of_le floor)]

/-- The key of a wrap that verifies, and none of one that does not (R75). -/
theorem State.unwrapRootKey_of_opens {b : RootLoadBody} {enrolmentKey key : Key}
    (opens : s.Opens enrolmentKey b.wrapNonce (beBytes 4 b.shopNumber.toNat ++ [b.role.code]) b.wrappedKey b.wrapTag)
    (wrapped : b.wrappedKey = encipherBytes enrolmentKey b.wrapNonce (beBytes 32 key.toNat)) :
    unwrapRootKey s.protections enrolmentKey b = some key := by
  rw [unwrapRootKey, (s.openSealed_eq ..).1 opens, Option.map_some, wrapped, decipherBytes_encipherBytes,
    ofNat_beNat_beBytes key (by decide)]

theorem State.unwrapRootKey_of_not_opens {b : RootLoadBody} {enrolmentKey : Key}
    (sealed : ¬ s.Opens enrolmentKey b.wrapNonce (beBytes 4 b.shopNumber.toNat ++ [b.role.code]) b.wrappedKey
      b.wrapTag) :
    unwrapRootKey s.protections enrolmentKey b = none := by
  rw [unwrapRootKey, (s.openSealed_eq ..).2 sealed, Option.map_none]

/-- A reply owed before a write is requested is owed after it. -/
theorem State.requestWrite_oweRootReply (s : State) (r : Request) (e n : EntryNo) :
    (s.requestWrite e).oweRootReply r n = (s.oweRootReply r n).requestWrite e := by
  have joins : (s.joinNvQueue e).oweRootReply r n = (s.oweRootReply r n).joinNvQueue e := by
    unfold State.joinNvQueue
    by_cases queued : e ∈ s.nvQueue
    · rw [if_pos queued, if_pos (show e ∈ (s.oweRootReply r n).nvQueue from queued)]
    · rw [if_neg queued, if_neg (show e ∉ (s.oweRootReply r n).nvQueue from queued)]
      rfl
  have write : (s.oweRootReply r n).nvWrite = s.nvWrite := rfl
  rw [State.requestWrite, State.requestWrite, write]
  cases s.nvWrite with
  | none => exact joins
  | some w =>
    dsimp only
    split
    · rfl
    · exact joins

section RootLoad

variable {b : RootLoadBody} (body : rootLoadBodyOf r.body = some b)

include body

theorem takeRootLoad_occupied (occupied : (s.root b.entry).contents.isSome) :
    takeRootLoad r s = s.reply r .occupied [numberByte b.entry] := by
  simp only [takeRootLoad, body, occupied, if_true]

theorem takeRootLoad_badWrap (empty : (s.root b.entry).contents = none)
    (unwrapped : unwrapRootKey s.protections s.identity.enrolmentKey b = none) :
    takeRootLoad r s = s.reply r .badWrap [numberByte b.entry] := by
  simp [takeRootLoad, body, empty, unwrapped]

theorem takeRootLoad_accepted {key : Key} (empty : (s.root b.entry).contents = none)
    (unwrapped : unwrapRootKey s.protections s.identity.enrolmentKey b = some key) :
    takeRootLoad r s =
      ((s.setRoot b.entry ((s.root b.entry).load b key)).oweRootReply r b.entry).requestWrite b.entry := by
  simp [takeRootLoad, body, empty, unwrapped, State.requestWrite_oweRootReply]

end RootLoad

/-- Settles O14: the body is read back from its bytes, and the wrap verifies as a sealed text. -/
theorem rootLoadTaken : Obligations.RootLoadTaken := by
  unfold Obligations.RootLoadTaken
  intro s r rest e shop role nonce wrapped tag floor takes kind keyLength tagLength small body header enrolmentKey
  have next : exec .rootLoad s = .next (takeRootLoad r { s with requests := rest }) :=
    takes_next (f := takeRootLoad) takes kind
  have parsed := rootLoadBodyOf_bytes ⟨e, shop, role, nonce, wrapped, tag, floor⟩ keyLength tagLength small
  have bytes : RootLoadBody.bytes ⟨e, shop, role, nonce, wrapped, tag, floor⟩ = r.body := by
    rw [body, RootLoadBody.bytes, Role.code_eq]
  have wrapHeader : header = beBytes 4 shop.toNat ++ [role.code] := by rw [Role.code_eq]
  rw [bytes] at parsed
  rw [next, wrapHeader]
  refine ⟨fun occupied => ?_, fun empty sealed => ?_, fun key empty opens made => ?_⟩
  · rw [takeRootLoad_occupied (s := { s with requests := rest }) parsed occupied]
    rfl
  · rw [takeRootLoad_badWrap (s := { s with requests := rest }) parsed empty (State.unwrapRootKey_of_not_opens sealed)]
    rfl
  · rw [takeRootLoad_accepted (s := { s with requests := rest }) parsed empty (State.unwrapRootKey_of_opens opens made)]
    rfl

/-! ## ROOT-ERASE (R77) -/

section RootErase

variable {e : EntryNo} (body : r.body = [byteOf e.val])

include body

theorem takeRootErase_empty (empty : (s.root e).contents = none) :
    takeRootErase r s = s.reply r .noRoot [numberByte e] := by
  simp [takeRootErase, body, entryBodyOf, empty]

theorem takeRootErase_bound (occupied : (s.root e).contents.isSome) (bound : (s.root e).bound.isSome) :
    takeRootErase r s = s.reply r .rootInUse [numberByte e] := by
  simp [takeRootErase, body, entryBodyOf, Option.isSome_iff_ne_none.mp occupied, bound]

theorem takeRootErase_accepted (occupied : (s.root e).contents.isSome) (unbound : (s.root e).bound = none) :
    takeRootErase r s = ((s.setRoot e { s.root e with contents := none }).oweRootReply r e).requestWrite e := by
  simp [takeRootErase, body, entryBodyOf, Option.isSome_iff_ne_none.mp occupied, unbound,
    State.requestWrite_oweRootReply]

end RootErase

/-- Settles O15: the checks of ROOT-ERASE in their order. -/
theorem rootEraseTaken : Obligations.RootEraseTaken := by
  unfold Obligations.RootEraseTaken
  intro s r rest e takes kind body
  have next : exec .rootErase s = .next (takeRootErase r { s with requests := rest }) :=
    takes_next (f := takeRootErase) takes kind
  rw [next]
  refine ⟨fun empty => ?_, fun occupied bound => ?_, fun occupied unbound => ?_⟩
  · rw [takeRootErase_empty (s := { s with requests := rest }) body empty]
    rfl
  · rw [takeRootErase_bound (s := { s with requests := rest }) body occupied bound]
    rfl
  · rw [takeRootErase_accepted (s := { s with requests := rest }) body occupied unbound]
    rfl

/-! ## NV writes (R84, R85) -/

theorem State.requestWrite_again {e : EntryNo} {w : NvWrite} (write : s.nvWrite = some w) (same : w.entry = e) :
    s.requestWrite e = { s with nvWrite := some { w with again := true } } := by
  simp only [State.requestWrite, write, same, if_true]

/-- Where no write of the entry is in progress, a request lets it join the queue (R84). -/
theorem State.requestWrite_joins {e : EntryNo} (other : ∀ w, s.nvWrite = some w → w.entry ≠ e) :
    s.requestWrite e = s.joinNvQueue e := by
  unfold State.requestWrite
  split
  · rfl
  · next w write => rw [if_neg (other w write)]

theorem State.startWrite_starts {e : EntryNo} {queue : List EntryNo} (free : s.nvWrite = none)
    (head : s.nvQueue = e :: queue) : s.startWrite = { s with
      nvWrite := some { entry := e, image := (s.root e).image, again := false }
      rootReplies := s.rootReplies.map fun x => if x.entry = e then { x with covered := true } else x } := by
  simp only [State.startWrite, free, head]

theorem State.startWrite_idle (idle : s.nvWrite ≠ none ∨ s.nvQueue = []) : s.startWrite = s := by
  unfold State.startWrite
  split
  · next free head => exact absurd (idle.resolve_left (not_not_intro free)) (by simp [head])
  · rfl
  · rfl

/-- Settles O16: the effects of a request, the start and the completion of a write. -/
theorem nvWritesQueueAndComplete : Obligations.NvWritesQueueAndComplete := by
  unfold Obligations.NvWritesQueueAndComplete
  refine ⟨fun s e w write same => State.requestWrite_again write same, fun s e other queued => ?queued,
    fun s e other new => ?joins, fun s e queue free head => State.startWrite_starts free head,
    fun s idle => State.startWrite_idle idle, fun s operating => act_next operating,
    fun s u w queue operating write head reported => ?completes, fun s operating free => ?nothing⟩
  case queued => rw [State.requestWrite_joins other, State.joinNvQueue, if_pos queued]
  case joins => rw [State.requestWrite_joins other, State.joinNvQueue, if_neg new]
  case completes =>
    have completed : s.completeWrite = s.finishWrite w := by simp only [State.completeWrite, write]
    have next : exec .nvWriteCompletion s = .next s.completeWrite := act_next operating
    rw [next, completed, State.finishWrite, head, List.tail_cons, reported]
    rfl
  case nothing =>
    have unmoved : s.completeWrite = s := by simp only [State.completeWrite, free]
    have next : exec .nvWriteCompletion s = .next s.completeWrite := act_next operating
    rw [next, unmoved]

/-! ## ATTACH (R74, R116, R117, R118) -/

section Attach

variable {l : Link} {e : EntryNo} {items : List PolicyItem}
  (body : attachBodyOf r.body = some (byteOf l.val, e, items))

include body

theorem takeAttach_attached (attached : s.entry l ≠ none) : takeAttach r s = s.reply r .notClosed [byteOf l.val] := by
  simp [takeAttach, body, Option.isSome_iff_ne_none.mpr attached]

variable (closed : s.entry l = none)

include closed

theorem takeAttach_empty (empty : (s.root e).contents = none) : takeAttach r s = s.reply r .noRoot [byteOf l.val] := by
  simp [takeAttach, body, closed, empty]

theorem takeAttach_bound {c : RootContents} (occupied : (s.root e).contents = some c)
    (bound : (s.root e).bound ≠ none) : takeAttach r s = s.reply r .rootInUse [byteOf l.val] := by
  simp [takeAttach, body, closed, occupied, Option.isSome_iff_ne_none.mpr bound]

theorem takeAttach_accepted {c : RootContents} (occupied : (s.root e).contents = some c)
    (unbound : (s.root e).bound = none) : takeAttach r s =
      ((s.attachLink l e c items).reply r (clampStatus items)
        ([byteOf l.val, c.role.code] ++ clampFields items)).serveFreed := by
  simp [takeAttach, body, closed, occupied, unbound]

end Attach

theorem clampStatus_code (items : List PolicyItem) :
    (clampStatus items).code = if clampedFields items = [] then 0x00 else 0x01 := by
  simp only [clampStatus, List.isEmpty_iff]
  split <;> rfl

/-- Settles O19: the checks of ATTACH in their order. -/
theorem attachTaken : Obligations.AttachTaken := by
  unfold Obligations.AttachTaken
  intro s r rest l n list items takes kind body policy
  have next : exec .attach s = .next (takeAttach r { s with requests := rest }) :=
    takes_next (f := takeAttach) takes kind
  have parsed : attachBodyOf r.body = some (byteOf l.val, n, items) := by
    simp only [body, attachBodyOf, numberOf_byteOf, policy]
  rw [next]
  refine ⟨fun attached => ?_, fun closed empty => ?_, fun closed occupied bound => ?_,
    fun c u closed occupied unbound triggered => ?_⟩
  · rw [takeAttach_attached (s := { s with requests := rest }) parsed attached]
    rfl
  · rw [takeAttach_empty (s := { s with requests := rest }) parsed closed empty]
    rfl
  · obtain ⟨c, occupied⟩ := Option.ne_none_iff_exists'.mp occupied
    rw [takeAttach_bound (s := { s with requests := rest }) parsed closed occupied bound]
    rfl
  · have linked : State.attachLink { s with requests := rest } l n c items = u := triggered.symm
    rw [takeAttach_accepted (s := { s with requests := rest }) parsed closed occupied unbound, linked,
      State.reply_eq, State.place, replyFrame, clampStatus_code, Role.code_eq]
    rfl

end Sys2Proof.Machine
end

section
/-! PROOFS. Renewal contexts stay in states of their role, a NEXT is held exactly in OFFERED or PROVED, and beat timers run
exactly with an outbound slot and beat_ticks not 0: every shared operation keeps it (R88, R132). -/

namespace Sys2Proof.Machine

open Sys2Proof

/-! ## What one link holds -/

/-- A key set and a renewal context fit the link table entry of their link (R88, R132). -/
structure LinkEntry.Renews (e : LinkEntry) (k : KeySet) (c : RenewalContext) : Prop where
  allows : e.role.allows c.state
  next : k.next.isSome ↔ c.state = .offered ∨ c.state = .proved
  step : c.stepTimer.isOn = true → c.state = .offered ∨ c.state = .asked ∨ c.state = .resting
  retry : c.retryOwed = true → c.state = .offered ∨ c.state = .asked
  confirm : c.confirmOwed = true → e.role = .hub
  asked : c.lastAskReason ≠ none → e.role = .hub
  beat : e.beatTimer.isOn = true ↔ (k.slot (outboundRoleOf e c)).isSome ∧ e.policy.beatTicks ≠ 0

/-- The content of a HELD record is of the kind a role receives (R15). -/
def RootContent.Fits (role : Role) : RootContent → Prop
  | .offer _ => role = .shop
  | .ask _ => role = .hub

/-- The round of a context stands where it did: its state and last ASK reason are the same, and no mark that this invariant
speaks of has been set and no step timer started. -/
structure RenewalContext.Rests (c d : RenewalContext) : Prop where
  state : d.state = c.state
  step : d.stepTimer.isOn = true → c.stepTimer.isOn = true
  retry : d.retryOwed = true → c.retryOwed = true
  confirm : d.confirmOwed = true → c.confirmOwed = true
  asked : d.lastAskReason = c.lastAskReason

variable {e e' : LinkEntry} {k k' : KeySet} {c d : RenewalContext}

theorem Role.allows_idle (role : Role) : role.allows .idle := by
  cases role <;> exact .inl rfl

theorem Role.allows_resting (role : Role) : role.allows .resting := by
  cases role <;> simp [Role.allows]

theorem outboundRoleOf_unproved (unproved : c.state ≠ .proved) : outboundRoleOf e c = .current := by
  simp [outboundRoleOf, unproved]

theorem outboundRoleOf_congr (role : e'.role = e.role) (state : d.state = c.state) :
    outboundRoleOf e' d = outboundRoleOf e c := by
  simp only [outboundRoleOf, role, state]

@[simp] theorem beatLoad_isOn (ticks : Nat) : (beatLoad ticks).isOn = true ↔ ticks ≠ 0 := by
  unfold beatLoad
  split <;> simp_all

theorem LinkEntry.Renews.rests (h : e.Renews k c) (rests : c.Rests d) : e.Renews k d where
  allows := rests.state ▸ h.allows
  next := rests.state ▸ h.next
  step on := rests.state ▸ h.step (rests.step on)
  retry owed := rests.state ▸ h.retry (rests.retry owed)
  confirm owed := h.confirm (rests.confirm owed)
  asked reason := h.asked (rests.asked ▸ reason)
  beat := outboundRoleOf_congr (e' := e) rfl rests.state ▸ h.beat

/-- The slots that are occupied stay so. -/
theorem LinkEntry.Renews.slots (h : e.Renews k c) (next : k'.next.isSome = k.next.isSome)
    (current : k'.current.isSome = k.current.isSome) : e.Renews k' c where
  allows := h.allows
  next := next ▸ h.next
  step := h.step
  retry := h.retry
  confirm := h.confirm
  asked := h.asked
  beat := by
    have outbound : (k'.slot (outboundRoleOf e c)).isSome = (k.slot (outboundRoleOf e c)).isSome := by
      unfold outboundRoleOf
      split
      · exact next
      · exact current
    rw [outbound]
    exact h.beat

/-- The entry changes, but not its role, and its beat timer runs as it must. -/
theorem LinkEntry.Renews.supervised (h : e.Renews k c) (role : e'.role = e.role)
    (beat : e'.beatTimer.isOn = true ↔ (k.slot (outboundRoleOf e c)).isSome ∧ e'.policy.beatTicks ≠ 0) :
    e'.Renews k c where
  allows := role ▸ h.allows
  next := h.next
  step := h.step
  retry := h.retry
  confirm owed := role ▸ h.confirm owed
  asked reason := role ▸ h.asked reason
  beat := outboundRoleOf_congr (c := c) role rfl ▸ beat

/-- A beat timer that runs is reloaded (R132). -/
theorem LinkEntry.Renews.reloads (h : e.Renews k c) (on : e.beatTimer.isOn = true) :
    { e with beatTimer := beatLoad e.policy.beatTicks }.Renews k c := by
  obtain ⟨outbound, ticks⟩ := h.beat.mp on
  exact h.supervised rfl (iff_of_true ((beatLoad_isOn _).mpr ticks) ⟨outbound, ticks⟩)

/-- The round moves on outside PROVED, where the outbound slot is CURRENT at either role (R23). -/
theorem LinkEntry.Renews.moved (h : e.Renews k c) (before : c.state ≠ .proved) (after : d.state ≠ .proved)
    (allows : e.role.allows d.state) (current : k'.current.isSome = k.current.isSome)
    (next : k'.next.isSome ↔ d.state = .offered)
    (step : d.stepTimer.isOn = true → d.state = .offered ∨ d.state = .asked ∨ d.state = .resting)
    (retry : d.retryOwed = true → d.state = .offered ∨ d.state = .asked)
    (confirm : d.confirmOwed = c.confirmOwed) (asked : d.lastAskReason = c.lastAskReason) : e.Renews k' d where
  allows := allows
  next := by rw [next]; simp [after]
  step := step
  retry := retry
  confirm owed := h.confirm (confirm ▸ owed)
  asked reason := h.asked (asked ▸ reason)
  beat := by
    have beat := h.beat
    rw [outboundRoleOf_unproved before] at beat
    rw [outboundRoleOf_unproved after]
    simpa only [KeySet.slot, current] using beat

theorem LinkEntry.Renews.next_none (h : e.Renews k c) (offered : c.state ≠ .offered) (proved : c.state ≠ .proved) :
    k.next.isSome = false := by
  rw [Bool.eq_false_iff, Ne, h.next]
  exact not_or.mpr ⟨offered, proved⟩

/-- The contexts of a hub (R88). -/
theorem LinkEntry.Renews.hub (h : e.Renews k c) (state : c.state = .preparing ∨ c.state = .offered) :
    e.role = .hub := by
  have allows := h.allows
  cases role : e.role with
  | hub => rfl
  | shop => rcases state with state | state <;> simp [Role.allows, role, state] at allows

/-- The contexts of a shop (R88). -/
theorem LinkEntry.Renews.shop (h : e.Renews k c)
    (state : c.state = .asking ∨ c.state = .asked ∨ c.state = .proved) : e.role = .shop := by
  have allows := h.allows
  cases role : e.role with
  | shop => rfl
  | hub => rcases state with state | state | state <;> simp [Role.allows, role, state] at allows

/-! ## The state -/

variable {s t u : State} {l : Link}

theorem State.renewalSound_iff : s.RenewalSound ↔
    (∀ l e, s.entry l = some e → e.Renews (s.keySet l) (s.renewal l)) ∧
    ∀ l content, s.Holds l content → ∃ e, s.entry l = some e ∧ content.Fits e.role := by
  constructor
  · rintro ⟨links, held⟩
    refine ⟨fun l e entry => ?_, ?_⟩
    · obtain ⟨allows, next, step, retry, confirm, asked, beat⟩ := links l e entry
      exact ⟨allows, next, step, retry, confirm, asked, State.outboundSlot_eq entry ▸ beat⟩
    · rintro l content ⟨j, member, rfl, state⟩
      obtain ⟨e, entry, fits⟩ := held j member content state
      exact ⟨e, entry, by cases content <;> exact fits⟩
  · rintro ⟨links, held⟩
    refine ⟨fun l e entry => ?_, fun j member content state => ?_⟩
    · obtain ⟨allows, next, step, retry, confirm, asked, beat⟩ := links l e entry
      exact ⟨allows, next, step, retry, confirm, asked, State.outboundSlot_eq entry ▸ beat⟩
    · obtain ⟨e, entry, fits⟩ := held j.link content ⟨j, member, rfl, state⟩
      exact ⟨e, entry, by cases content <;> exact fits⟩

theorem State.RenewalSound.renews (sound : s.RenewalSound) {e : LinkEntry} (entry : s.entry l = some e) :
    e.Renews (s.keySet l) (s.renewal l) :=
  (State.renewalSound_iff.mp sound).1 l e entry

theorem State.RenewalSound.fits (sound : s.RenewalSound) {content : RootContent} (held : s.Holds l content) :
    ∃ e, s.entry l = some e ∧ content.Fits e.role :=
  (State.renewalSound_iff.mp sound).2 l content held

/-- The tables and jobs that the invariant speaks of. -/
def State.renewing (s : State) := (s.keys, s.links, s.renewals, s.pool)

/-- The tables have not moved, and every HELD record fits its link. -/
theorem State.RenewalSound.of_held (sound : s.RenewalSound) (keys : t.keys = s.keys) (links : t.links = s.links)
    (renewals : t.renewals = s.renewals)
    (held : ∀ l content, t.Holds l content → ∃ e, s.entry l = some e ∧ content.Fits e.role) : t.RenewalSound := by
  refine State.renewalSound_iff.mpr ⟨fun l e entry => ?_, fun l content now => ?_⟩
  · have same : s.entry l = some e := by rwa [State.entry, links] at entry
    simpa only [State.keySet, State.renewal, keys, renewals] using sound.renews same
  · simpa only [State.entry, links] using held l content now

/-- The tables have not moved, and no record has become HELD. -/
theorem State.RenewalSound.of_tables (sound : s.RenewalSound) (keys : t.keys = s.keys) (links : t.links = s.links)
    (renewals : t.renewals = s.renewals) (held : ∀ l content, t.Holds l content → s.Holds l content) :
    t.RenewalSound :=
  sound.of_held keys links renewals fun l content now => sound.fits (held l content now)

theorem State.RenewalSound.of_eq (sound : s.RenewalSound) (same : t.renewing = s.renewing) : t.RenewalSound := by
  simp only [State.renewing, Prod.mk.injEq] at same
  obtain ⟨keys, links, renewals, pool⟩ := same
  exact sound.of_tables keys links renewals fun l content h => by rwa [State.Holds, pool] at h

theorem FaultFrame.renewalSound (frame : FaultFrame s t) (sound : s.RenewalSound) : t.RenewalSound :=
  sound.of_tables frame.keys frame.links frame.renewals frame.evolves.held

/-- One link's entry, slots and round have moved, its role has not, and no record has become HELD. -/
theorem State.RenewalSound.of_link (sound : s.RenewalSound) (frame : LinkFrame l s t)
    (held : ∀ m content, t.Holds m content → s.Holds m content) (closed : s.entry l = none → t.entry l = none)
    (own : ∀ e, s.entry l = some e → e.Renews (s.keySet l) (s.renewal l) →
      ∃ e', t.entry l = some e' ∧ e'.role = e.role ∧ e'.Renews (t.keySet l) (t.renewal l)) : t.RenewalSound := by
  refine State.renewalSound_iff.mpr ⟨fun m x entry => ?_, fun m content now => ?_⟩
  · by_cases here : m = l
    · subst here
      cases before : s.entry m with
      | none => cases (closed before).symm.trans entry
      | some e =>
        obtain ⟨e', entry', -, renews⟩ := own e before (sound.renews before)
        cases entry'.symm.trans entry
        exact renews
    · rw [frame.keySet m here, frame.renewal m here]
      exact sound.renews ((frame.entry m here).symm.trans entry)
  · obtain ⟨e, entry, fits⟩ := sound.fits (held m content now)
    by_cases here : m = l
    · subst here
      obtain ⟨e', entry', role, -⟩ := own e entry (sound.renews entry)
      exact ⟨e', entry', role ▸ fits⟩
    · exact ⟨e, (frame.entry m here).trans entry, fits⟩

/-- One link's slots and round have moved, and no record has become HELD. -/
theorem State.RenewalSound.of_round (sound : s.RenewalSound) (frame : RoundFrame l s t)
    (held : ∀ m content, t.Holds m content → s.Holds m content)
    (own : ∀ e, s.entry l = some e → e.Renews (s.keySet l) (s.renewal l) → e.Renews (t.keySet l) (t.renewal l)) :
    t.RenewalSound :=
  sound.of_link frame.link held (fun none => (frame.entry l).trans none) fun e entry renews =>
    ⟨e, (frame.entry l).trans entry, rfl, own e entry renews⟩

theorem State.RenewalSound.onRenewal (sound : s.RenewalSound) {f : RenewalContext → RenewalContext}
    (own : ∀ e, s.entry l = some e → e.Renews (s.keySet l) (s.renewal l) →
      e.Renews (s.keySet l) (f (s.renewal l))) : (s.onRenewal l f).RenewalSound :=
  sound.of_round (s.onRenewal_frame l f) (fun _ _ => id) fun e entry renews => by
    rw [State.renewal_onRenewal_same]
    exact own e entry renews

theorem State.RenewalSound.rests (sound : s.RenewalSound) {f : RenewalContext → RenewalContext}
    (rests : (s.renewal l).Rests (f (s.renewal l))) : (s.onRenewal l f).RenewalSound :=
  sound.onRenewal fun _ _ renews => renews.rests rests

theorem State.RenewalSound.setKeys (sound : s.RenewalSound) (next : k.next.isSome = (s.keySet l).next.isSome)
    (current : k.current.isSome = (s.keySet l).current.isSome) : (s.setKeys l k).RenewalSound :=
  sound.of_round (s.setKeys_frame l k) (fun _ _ => id) fun _ _ renews => by
    rw [State.keySet_setKeys_same]
    exact renews.slots next current

/-- A slot replaced by another of its role. -/
theorem State.RenewalSound.withSlot (sound : s.RenewalSound) {role : SlotRole} {x : KeySlot}
    (slot : (s.keySet l).slot role = some x) (x' : KeySlot) :
    (s.setKeys l ((s.keySet l).withSlot role (some x'))).RenewalSound := by
  cases role <;> exact sound.setKeys (by simp_all [KeySet.withSlot, KeySet.slot])
    (by simp_all [KeySet.withSlot, KeySet.slot])

theorem State.RenewalSound.onEntry (sound : s.RenewalSound) {f : LinkEntry → LinkEntry}
    (own : ∀ e, s.entry l = some e → e.Renews (s.keySet l) (s.renewal l) →
      (f e).role = e.role ∧ (f e).Renews (s.keySet l) (s.renewal l)) : (s.onEntry l f).RenewalSound := by
  refine sound.of_link (s.onEntry_frame l f) (fun _ _ => id) (fun none => ?_) fun e entry renews => ?_
  · rw [State.entry_onEntry_same, none, Option.map_none]
  · exact ⟨f e, by rw [State.entry_onEntry_same, entry, Option.map_some], own e entry renews⟩

theorem State.RenewalSound.setEntry (sound : s.RenewalSound) (entry : s.entry l = some e) (role : e'.role = e.role)
    (own : e.Renews (s.keySet l) (s.renewal l) → e'.Renews (s.keySet l) (s.renewal l)) :
    (s.setEntry l (some e')).RenewalSound := by
  refine sound.of_link (s.setEntry_frame l _) (fun _ _ => id) (fun none => ?_) fun x before renews => ?_
  · cases none.symm.trans entry
  · cases before.symm.trans entry
    exact ⟨e', State.entry_setEntry_same s l _, role, own renews⟩

/-- An event of the link supervisor that moves neither the role, nor beat_ticks, nor whether the beat timer runs. -/
theorem State.RenewalSound.supervises (sound : s.RenewalSound) (entry : s.entry l = some e) (role : e'.role = e.role)
    (timer : e'.beatTimer = e.beatTimer) (policy : e'.policy = e.policy) : (s.setEntry l (some e')).RenewalSound :=
  sound.setEntry entry role fun renews => renews.supervised role (by rw [timer, policy]; exact renews.beat)

/-! ## The fault monitor, the owed set and the open choices -/

theorem State.RenewalSound.occurrence (sound : s.RenewalSound) (l : Link) (k : FaultKind) (epoch sequence : Option Nat) :
    (s.occurrence l k epoch sequence).RenewalSound :=
  (s.occurrence_frame l k epoch sequence).renewalSound sound

theorem State.RenewalSound.serveOwed (sound : s.RenewalSound) : s.serveOwed.RenewalSound :=
  s.serveOwed_frame.renewalSound sound

theorem State.RenewalSound.chosen (sound : s.RenewalSound) : s.chosen.RenewalSound := sound.of_eq rfl

theorem State.RenewalSound.place (sound : s.RenewalSound) (f : OutFrame) : (s.place f).RenewalSound := sound.of_eq rfl

theorem State.RenewalSound.serveReleased (sound : s.RenewalSound) : s.serveReleased.RenewalSound := by
  unfold State.serveReleased
  split
  · exact sound
  · split
    · exact sound.serveOwed
    · split
      · exact sound.chosen.serveOwed
      · exact sound.chosen

/-! ## Jobs -/

theorem State.RenewalSound.removeFirst (sound : s.RenewalSound) (l : Link) : (s.removeFirst l).RenewalSound :=
  sound.of_tables rfl rfl rfl (s.removeFirst_evolves l).held

theorem State.RenewalSound.removeLane (sound : s.RenewalSound) (lane : Lane) : (s.removeLane lane).RenewalSound :=
  sound.of_tables rfl rfl rfl (s.removeLane_evolves lane).held

theorem State.RenewalSound.withdraw (sound : s.RenewalSound) (l : Link) (sort : Work → Bool) :
    (s.withdraw l sort).RenewalSound :=
  sound.of_tables rfl rfl rfl (s.withdraw_evolves l sort).held

theorem State.RenewalSound.append (sound : s.RenewalSound) (l : Link) (work : Work) :
    (s.append { link := l, state := .waiting, work := work }).RenewalSound :=
  sound.of_tables rfl rfl rfl (s.append_evolves l work).held

theorem State.RenewalSound.claim (sound : s.RenewalSound) (l : Link) (c : CounterClaim) :
    (s.onFirst l (Job.withClaim c)).RenewalSound :=
  sound.of_tables rfl rfl rfl (s.onFirst_claim_evolves l c).held

theorem State.requestWrite_renewing (s : State) (e : EntryNo) : (s.requestWrite e).renewing = s.renewing := by
  have joins : (s.joinNvQueue e).renewing = s.renewing := by
    unfold State.joinNvQueue
    split <;> rfl
  unfold State.requestWrite
  split
  · exact joins
  · split
    · rfl
    · exact joins

theorem State.raiseCeiling_renewing (s : State) (e : EntryNo) : (s.raiseCeiling e).renewing = s.renewing := by
  unfold State.raiseCeiling
  split
  · exact State.requestWrite_renewing _ e
  · rfl

/-! ## The end of a round, and the counter of a first job -/

/-- A round that fails is a hub's in OFFERED, which loses its NEXT, or a shop's in ASKED, which holds none (R101). -/
theorem State.RenewalSound.failRound (sound : s.RenewalSound)
    (round : (s.renewal l).state = .offered ∨ (s.renewal l).state = .asked) : (s.failRound l).RenewalSound := by
  refine sound.of_round (s.failRound_frame l) (s.failRound_evolves l).held fun e entry renews => ?_
  have frame := s.occurrence_frame l .renewFail none none
  have unproved : (s.renewal l).state ≠ .proved := by rcases round with state | state <;> simp [state]
  have rested : ∀ k' : KeySet, k'.current.isSome = (s.keySet l).current.isSome → k'.next.isSome = false →
      e.Renews k' { s.renewal l with
        state := .resting, stepTimer := .running e.policy.restTicks, retryOwed := false, claimDue := false } :=
    fun k' current next => renews.moved unproved (by simp) e.role.allows_resting current
      (by simp [next]) (by simp) (by simp) rfl rfl
  simp only [State.failRound, entry]
  cases role : e.role with
  | hub =>
    simp only [State.onRenewal, State.setRenewal_keySet, State.keySet_setKeys_same, State.renewal_setRenewal_same,
      State.setKeys_renewal, frame.renewal]
    exact rested _ (by rw [frame.keySet]) rfl
  | shop =>
    simp only [State.onRenewal, State.setRenewal_keySet, State.renewal_setRenewal_same, frame.renewal, frame.keySet]
    refine rested _ rfl (renews.next_none (fun offered => ?_) unproved)
    cases role.symm.trans (renews.hub (.inr offered))

theorem State.RenewalSound.wornRoot (sound : s.RenewalSound) (l : Link) : (s.wornRoot l).RenewalSound := by
  unfold State.wornRoot
  split
  · next state => exact sound.failRound (.inl state)
  · next state => exact sound.failRound (.inr state)
  all_goals exact sound

theorem askFirst_renewalSound (fuel : Nat) (l : Link) {s : State} (sound : s.RenewalSound) :
    (askFirst fuel l s).RenewalSound := by
  induction fuel generalizing s with
  | zero => exact sound
  | succ fuel ih =>
    unfold askFirst
    split
    · exact sound
    · split
      · exact sound.claim l .ready
      · exact (sound.claim l .raising).of_eq (State.raiseCeiling_renewing _ _)
      · exact ih ((sound.removeFirst l).serveReleased.wornRoot l)

theorem State.RenewalSound.settleFirst (sound : s.RenewalSound) (l : Link) : (s.settleFirst l).RenewalSound :=
  askFirst_renewalSound _ l sound

/-! ## The requests of a round, and triggers -/

/-- A hub's first OFFER creates the NEXT that OFFERED holds (R93). -/
theorem State.RenewalSound.requestOffer (sound : s.RenewalSound) (preparing : (s.renewal l).state = .preparing) :
    (s.requestOffer l).RenewalSound := by
  unfold State.requestOffer
  split
  · refine State.RenewalSound.settleFirst (sound.of_round (l := l)
      (((s.createNext_frame l).trans (State.appendOffer_frame _ l)).trans (State.onRenewal_frame _ l _))
      ((State.createNext_evolves preparing).trans (State.appendOffer_evolves _ l)).held fun e entry renews => ?_) l
    have appended : ((s.createNext l).appendOffer l).holding l = (s.createNext l).holding l :=
      State.appendOffer_holding _ l
    have keys : ((s.createNext l).appendOffer l).keySet l = (s.createNext l).keySet l := congrArg Holding.keys appended
    have round : ((s.createNext l).appendOffer l).renewal l = s.renewal l :=
      (congrArg Holding.renewal appended).trans (by rw [State.createNext_eq entry]; rfl)
    have created : (s.createNext l).keySet l = { s.keySet l with
        next := some (newSlot e.policy (s.keySet l).offerEpoch (Config.randomKey s.draws) (Config.randomSalt s.draws)
          s.tickCount) } := by
      rw [State.createNext_eq entry]
      exact State.keySet_setKeys_same s l _
    have unretried : (s.renewal l).retryOwed = false := by
      rw [Bool.eq_false_iff]
      intro owed
      rcases renews.retry owed with state | state <;> cases preparing.symm.trans state
    rw [State.renewal_onRenewal_same, round, State.onRenewal, State.setRenewal_keySet, keys, created]
    exact renews.moved (by simp [preparing]) (by simp)
      (by simp [renews.hub (.inl preparing), Role.allows]) rfl (by simp) (by simp) (by simp) rfl rfl
  · exact sound

/-- A shop's ASK leaves it without a NEXT (R97). -/
theorem State.RenewalSound.requestAsk (sound : s.RenewalSound) (asking : (s.renewal l).state = .asking) :
    (s.requestAsk l).RenewalSound := by
  unfold State.requestAsk
  split
  · refine State.RenewalSound.settleFirst (sound.of_round (l := l)
      ((s.appendAsk_frame l).trans (State.onRenewal_frame _ l _)) (s.appendAsk_evolves l).held fun e _ renews => ?_) l
    have appended : (s.appendAsk l).holding l = s.holding l := s.appendAsk_holding l
    have keys : (s.appendAsk l).keySet l = s.keySet l := congrArg Holding.keys appended
    have round : (s.appendAsk l).renewal l = s.renewal l := congrArg Holding.renewal appended
    have none := renews.next_none (by simp [asking]) (by simp [asking])
    rw [State.renewal_onRenewal_same, round, State.onRenewal, State.setRenewal_keySet, keys]
    exact renews.moved (by simp [asking]) (by simp)
      (by simp [renews.shop (.inl asking), Role.allows]) rfl (by simp [none]) (by simp) (by simp) rfl rfl
  · exact sound

/-- A retry is counted, or owed in OFFERED or ASKED (R95, R98). -/
theorem State.RenewalSound.retried (sound : s.RenewalSound) (l : Link) :
    (s.onRenewal l fun c => { c with triesUsed := c.triesUsed + 1, retryOwed := false }).RenewalSound :=
  sound.rests ⟨rfl, id, by simp, id, rfl⟩

theorem State.RenewalSound.owesRetry (sound : s.RenewalSound)
    (round : (s.renewal l).state = .offered ∨ (s.renewal l).state = .asked) :
    (s.onRenewal l fun c => { c with retryOwed := true }).RenewalSound :=
  sound.onRenewal fun _ _ renews => { renews with retry := fun _ => round }

theorem State.RenewalSound.retryOffer (sound : s.RenewalSound)
    (round : (s.renewal l).state = .offered ∨ (s.renewal l).state = .asked) : (s.retryOffer l).RenewalSound := by
  unfold State.retryOffer
  split
  · refine State.RenewalSound.settleFirst (State.RenewalSound.retried ?_ l) l
    unfold State.appendOffer
    split
    · exact sound.append l _
    · exact sound
  · exact sound.owesRetry round

theorem State.RenewalSound.retryAsk (sound : s.RenewalSound)
    (round : (s.renewal l).state = .offered ∨ (s.renewal l).state = .asked) : (s.retryAsk l).RenewalSound := by
  unfold State.retryAsk
  split
  · refine State.RenewalSound.settleFirst (State.RenewalSound.retried ?_ l) l
    unfold State.appendAsk
    split
    · exact sound.append l _
    · exact sound
  · exact sound.owesRetry round

/-- A round begins at a link without a NEXT (R91, R92, R102). -/
theorem State.RenewalSound.startRound (sound : s.RenewalSound) (isOpen : (s.renewal l).state.isOpen = true) :
    (s.startRound l).RenewalSound := by
  rw [RenewalState.isOpen_iff] at isOpen
  have begins : ∀ state, (∀ e, s.entry l = some e → e.role.allows state) → state = .preparing ∨ state = .asking →
      (s.onRenewal l fun c => { c with
        state := state, triesUsed := 0, retryOwed := false, stepTimer := .stopped, claimDue := false }).RenewalSound := by
    intro state allows waits
    refine sound.onRenewal fun e entry renews => ?_
    have unproved : (s.renewal l).state ≠ .proved := by rcases isOpen with idle | resting <;> simp [*]
    have none := renews.next_none (by rcases isOpen with idle | resting <;> simp [*]) unproved
    exact renews.moved unproved (by rcases waits with rfl | rfl <;> simp) (allows e entry) rfl
      (by rcases waits with rfl | rfl <;> simp [none]) (by simp) (by simp) rfl rfl
  unfold State.startRound
  split
  · exact sound
  · next e entry =>
    split
    · next hub =>
      refine State.RenewalSound.requestOffer (begins .preparing (fun e' same => ?_) (.inl rfl)) (by simp)
      cases entry.symm.trans same
      simp [hub, Role.allows]
    · next shop =>
      refine State.RenewalSound.requestAsk (begins .asking (fun e' same => ?_) (.inr rfl)) (by simp)
      cases entry.symm.trans same
      simp [shop, Role.allows]

theorem State.RenewalSound.trigger (sound : s.RenewalSound) (l : Link) (reason : Reason) :
    (s.trigger l reason).RenewalSound := by
  unfold State.trigger
  split
  · next isOpen =>
    exact State.RenewalSound.startRound (sound.rests ⟨rfl, id, id, id, rfl⟩) (by simpa using isOpen)
  · exact sound.rests ⟨rfl, id, id, id, rfl⟩

/-! ## Outbound traffic -/

theorem State.RenewalSound.softCross (sound : s.RenewalSound) (l : Link) (role : SlotRole) :
    (s.softCross l role).RenewalSound := by
  unfold State.softCross
  split
  · exact sound
  · next slot =>
    split
    · exact (sound.withSlot slot _).trigger l .wear
    · exact sound

/-- A running beat timer is one with beat_ticks not 0, so that its reload leaves it running (R132). -/
theorem State.RenewalSound.outboundAccepted (sound : s.RenewalSound) (l : Link) :
    (s.outboundAccepted l).RenewalSound := by
  have reloaded : (s.onEntry l fun e => { e with
      beatTimer := if e.beatTimer.isOn then beatLoad e.policy.beatTicks else e.beatTimer }).RenewalSound := by
    refine sound.onEntry fun e _ renews => ⟨rfl, ?_⟩
    split
    · next on => exact renews.reloads on
    · exact renews
  exact reloaded.rests ⟨rfl, id, id, nofun, rfl⟩

theorem State.RenewalSound.acceptOutbound {k : KeySlot} (sound : s.RenewalSound) (slot : s.outboundSlot l = some k)
    (n : Nat) (work : SlotBinding → Nat → Work) : (s.acceptOutbound l k n work).RenewalSound :=
  (((sound.withSlot slot _).append l _).outboundAccepted l).softCross l _

theorem State.RenewalSound.refuseForWear (sound : s.RenewalSound) (l : Link) (k : KeySlot) :
    (s.refuseForWear l k).RenewalSound := by
  have reported := sound.occurrence l .spent (some k.epoch) none
  unfold State.refuseForWear
  dsimp only
  split
  · exact reported.trigger l .spent
  · exact reported

theorem State.RenewalSound.requestTraffic (sound : s.RenewalSound) (l : Link) (work : SlotBinding → Nat → Work) :
    (s.requestTraffic l work).RenewalSound := by
  unfold State.requestTraffic
  split
  · exact sound
  · next slot =>
    split
    · exact sound.acceptOutbound slot 0 work
    · exact sound.refuseForWear l _
    · exact sound
    · exact sound

theorem State.RenewalSound.requestConfirm (sound : s.RenewalSound) (l : Link) : (s.requestConfirm l).RenewalSound := by
  unfold State.requestConfirm
  split
  · exact sound.occurrence l .beatSkip none none
  all_goals exact sound.requestTraffic l .beat

/-! ## The expiries and requests of a tick -/

/-- A beat expiry reloads the timer while its link has an outbound slot and stops it otherwise (R132, R133). -/
theorem State.RenewalSound.expireBeat (sound : s.RenewalSound) (l : Link) : (s.expireBeat l).RenewalSound := by
  unfold State.expireBeat
  split
  · exact sound
  · next e entry =>
    split
    · next expiring =>
      have reload : ∀ {t : State}, t.RenewalSound → t.entry l = some e →
          (t.onEntry l fun e' => { e' with beatTimer := beatLoad e.policy.beatTicks }).RenewalSound := by
        intro t sound same
        refine sound.onEntry fun x entry renews => ⟨rfl, ?_⟩
        cases same.symm.trans entry
        exact renews.reloads (by rw [expiring]; rfl)
      unfold State.takeBeatExpiry
      dsimp only
      split
      · exact sound.requestTraffic l .beat
      · exact reload (sound.occurrence l .beatSkip none none) (((s.occurrence_frame l _ _ _).entry l).trans entry)
      · next spent =>
        refine reload (sound.requestTraffic l .beat) ?_
        cases slot : s.outboundSlot l with
        | none => simp only [State.requestTraffic, slot, entry]
        | some k =>
          rw [State.requestTraffic_spent slot spent]
          exact ((s.refuseForWear_frame l k).entry l).trans entry
      · next noKey =>
        have empty : s.outboundSlot l = none := by
          cases slot : s.outboundSlot l with
          | none => rfl
          | some k =>
            simp only [State.controlAnswer, slot] at noKey
            split_ifs at noKey
        refine sound.onEntry fun x entry' renews => ⟨rfl, renews.supervised rfl ?_⟩
        rw [State.outboundSlot_eq entry'] at empty
        exact iff_of_false nofun (by simp [empty])
    · exact sound

theorem State.RenewalSound.takePreparing (sound : s.RenewalSound) (l : Link) : (s.takePreparing l).RenewalSound := by
  unfold State.takePreparing
  split
  · next h =>
    have preparing : (s.renewal l).state = .preparing := by simpa using (Bool.and_eq_true_iff.mp h).2
    simp only [State.takeClaim, preparing]
    exact State.RenewalSound.requestOffer (sound.rests ⟨rfl, id, id, id, rfl⟩) (by simpa using preparing)
  · exact sound

theorem State.RenewalSound.takeAsking (sound : s.RenewalSound) (l : Link) : (s.takeAsking l).RenewalSound := by
  unfold State.takeAsking
  split
  · next h =>
    have asking : (s.renewal l).state = .asking := by simpa using (Bool.and_eq_true_iff.mp h).2
    simp only [State.takeClaim, asking]
    exact State.RenewalSound.requestAsk (sound.rests ⟨rfl, id, id, id, rfl⟩) (by simpa using asking)
  · exact sound

theorem State.RenewalSound.takeRetry (sound : s.RenewalSound) (l : Link) : (s.takeRetry l).RenewalSound := by
  unfold State.takeRetry
  split
  · next h =>
    have round : (s.renewal l).state = .offered ∨ (s.renewal l).state = .asked := by
      simp only [State.retryDue, State.claimsIn, Bool.and_eq_true, Bool.or_eq_true, decide_eq_true_eq] at h
      exact h.1.imp And.right And.right
    have taken : (s.onRenewal l fun c => { c with claimDue := false }).RenewalSound :=
      sound.rests ⟨rfl, id, id, id, rfl⟩
    have still : ((s.onRenewal l fun c => { c with claimDue := false }).renewal l).state = .offered ∨
        ((s.onRenewal l fun c => { c with claimDue := false }).renewal l).state = .asked := by simpa using round
    rcases round with state | state <;> simp only [State.takeClaim, state]
    · exact taken.retryOffer still
    · exact taken.retryAsk still
  · exact sound

theorem State.RenewalSound.takeConfirm (sound : s.RenewalSound) (l : Link) : (s.takeConfirm l).RenewalSound := by
  unfold State.takeConfirm
  split
  · exact State.RenewalSound.requestConfirm (sound.rests ⟨rfl, id, id, id, rfl⟩) l
  · exact sound

theorem State.RenewalSound.stopStep (sound : s.RenewalSound) (l : Link) : (s.stopStep l).RenewalSound :=
  sound.rests ⟨rfl, nofun, id, id, rfl⟩

/-- A step timer that has expired in a state leaves the context there when it is stopped. -/
theorem State.stopStep_state {state : RenewalState} (expired : s.stepExpired l state = true) :
    ((s.stopStep l).renewal l).state = state := by
  simp only [State.stepExpired, Bool.and_eq_true, decide_eq_true_eq] at expired
  simpa [State.stopStep] using expired.1

theorem State.RenewalSound.expireOffer (sound : s.RenewalSound) (l : Link) : (s.expireOffer l).RenewalSound := by
  unfold State.expireOffer
  split
  · exact sound
  · split
    · next expired =>
      have round := State.stopStep_state expired
      split
      · exact (sound.stopStep l).retryOffer (.inl round)
      · exact (sound.stopStep l).failRound (.inl round)
    · exact sound

theorem State.RenewalSound.expireAsk (sound : s.RenewalSound) (l : Link) : (s.expireAsk l).RenewalSound := by
  unfold State.expireAsk
  split
  · exact sound
  · split
    · next expired =>
      have round := State.stopStep_state expired
      split
      · exact (sound.stopStep l).retryAsk (.inr round)
      · exact (sound.stopStep l).failRound (.inr round)
    · exact sound

theorem State.RenewalSound.expireRest (sound : s.RenewalSound) (l : Link) : (s.expireRest l).RenewalSound := by
  unfold State.expireRest
  split
  · next expired =>
    simp only [State.stepExpired, Bool.and_eq_true, decide_eq_true_eq] at expired
    obtain ⟨resting, -⟩ := expired
    split
    · exact sound.startRound (by simp [resting, RenewalState.isOpen])
    · refine sound.onRenewal fun e _ renews => ?_
      have none := renews.next_none (by simp [resting]) (by simp [resting])
      have unowed : (s.renewal l).retryOwed = false := by
        rw [Bool.eq_false_iff]
        intro owed
        rcases renews.retry owed with state | state <;> cases resting.symm.trans state
      exact renews.moved (by simp [resting]) (by simp) e.role.allows_idle rfl (by simp [none]) (by simp)
        (by simp [unowed]) rfl rfl
  · exact sound

theorem State.RenewalSound.expireRenewal (sound : s.RenewalSound) (l : Link) : (s.expireRenewal l).RenewalSound := by
  unfold State.expireRenewal
  split
  · exact sound
  · split
    · have marked : (s.onRenewal l fun c => { c with dueMark := true }).RenewalSound :=
        sound.rests ⟨rfl, id, id, id, rfl⟩
      have reported := marked.occurrence l (if (s.renewal l).dueMark then .overdue else .due)
        ((s.keySet l).current.map KeySlot.epoch) none
      exact State.RenewalSound.trigger (reported.rests ⟨rfl, id, id, id, rfl⟩) l .due
    · exact sound

theorem LinkEntry.silent_keeps (e : LinkEntry) :
    e.silent.role = e.role ∧ e.silent.beatTimer = e.beatTimer ∧ e.silent.policy = e.policy := by
  unfold LinkEntry.silent
  split <;> exact ⟨rfl, rfl, rfl⟩

theorem State.RenewalSound.expireSilence (sound : s.RenewalSound) (l : Link) : (s.expireSilence l).RenewalSound := by
  unfold State.expireSilence
  split
  · exact sound
  · next e entry =>
    split
    · obtain ⟨role, timer, policy⟩ := e.silent_keeps
      have reported := (sound.supervises entry role timer policy).occurrence l .silent none none
      dsimp only
      split
      · exact reported.trigger l .loss
      · exact reported
    · exact sound

theorem State.RenewalSound.takeControlClaim (sound : s.RenewalSound) (c : ControlClaim) :
    (s.takeControlClaim c).RenewalSound := by
  cases c with
  | beat l => exact sound.expireBeat l
  | preparing l => exact sound.takePreparing l
  | asking l => exact sound.takeAsking l
  | retry l => exact sound.takeRetry l
  | confirm l => exact sound.takeConfirm l
  | offerTimer l => exact sound.expireOffer l
  | askTimer l => exact sound.expireAsk l
  | restTimer l => exact sound.expireRest l
  | renewalTimer l => exact sound.expireRenewal l
  | silence l => exact sound.expireSilence l

/-! ## Contested slots -/

theorem State.RenewalSound.serveOne (sound : s.RenewalSound) (claims : List ControlClaim) (n : Nat) :
    (s.serveOne claims n).RenewalSound := by
  unfold State.serveOne
  split
  · exact sound.takeControlClaim _
  · unfold State.serveLowest
    split
    · exact sound
    · exact sound.of_eq rfl

theorem serveContested_renewalSound (fuel : Nat) {s : State} (sound : s.RenewalSound) :
    (serveContested fuel s).RenewalSound := by
  induction fuel generalizing s with
  | zero => exact sound.serveOwed
  | succ fuel ih =>
    unfold serveContested
    split
    · exact sound
    · exact sound.serveOwed
    · split
      · exact ih (sound.chosen.serveOne _ _)
      · exact sound

theorem State.RenewalSound.serveFreed (sound : s.RenewalSound) : s.serveFreed.RenewalSound :=
  serveContested_renewalSound _ sound

section Contest

variable {request : State → State} (requests : ∀ {u : State}, u.RenewalSound → (request u).RenewalSound)

include requests

theorem contestSlots_renewalSound (l : Link) (fuel : Nat) {s : State} (sound : s.RenewalSound) :
    (contestSlots l request fuel s).RenewalSound := by
  induction fuel generalizing s with
  | zero => exact requests sound
  | succ fuel ih =>
    unfold contestSlots
    dsimp only
    split
    · split
      · exact requests sound.chosen
      · exact ih (sound.chosen.serveOne _ _)
    · exact requests sound

theorem State.RenewalSound.contest (sound : s.RenewalSound) (l : Link) : (s.contest l request).RenewalSound := by
  unfold State.contest
  split
  · exact (contestSlots_renewalSound requests l _ sound).serveReleased
  · exact requests sound

end Contest

/-! ## Verdicts -/

theorem LinkEntry.good_keeps (e : LinkEntry) :
    e.good.role = e.role ∧ e.good.beatTimer = e.beatTimer ∧ e.good.policy = e.policy := by
  unfold LinkEntry.good
  split
  · exact ⟨rfl, rfl, rfl⟩
  · split <;> exact ⟨rfl, rfl, rfl⟩
  · exact ⟨rfl, rfl, rfl⟩
  · exact ⟨rfl, rfl, rfl⟩

theorem LinkEntry.bad_keeps (e : LinkEntry) :
    e.bad.role = e.role ∧ e.bad.beatTimer = e.beatTimer ∧ e.bad.policy = e.policy := by
  unfold LinkEntry.bad
  split <;> exact ⟨rfl, rfl, rfl⟩

theorem State.RenewalSound.goodVerdict (sound : s.RenewalSound) (l : Link) : (s.goodVerdict l).RenewalSound := by
  refine sound.onEntry fun e _ renews => ?_
  obtain ⟨role, timer, policy⟩ := e.good_keeps
  exact ⟨role, renews.supervised role (by rw [timer, policy]; exact renews.beat)⟩

theorem State.RenewalSound.badVerdict (sound : s.RenewalSound) (l : Link) : (s.badVerdict l).RenewalSound := by
  unfold State.badVerdict
  split
  · exact sound
  · next e entry =>
    split
    · have lost := (sound.supervises (e' := { e with state := .hunt, goodCount := 0, badCount := 0 }) entry rfl rfl
        rfl).occurrence l .loss none none
      unfold State.loseLock
      dsimp only
      split
      · exact lost.trigger l .loss
      · exact lost
    · obtain ⟨role, timer, policy⟩ := e.bad_keeps
      exact sound.supervises entry role timer policy

/-! ## Promotion and installation -/

/-- One link's slots, entry and round rewritten together. -/
theorem State.RenewalSound.rewritten (sound : s.RenewalSound) (entry : s.entry l = some e) (role : e'.role = e.role)
    {f : RenewalContext → RenewalContext}
    (own : e.Renews (s.keySet l) (s.renewal l) → e'.Renews k (f (s.renewal l))) :
    (((s.setKeys l k).setEntry l (some e')).onRenewal l f).RenewalSound := by
  refine sound.of_link (l := l) (((s.setKeys_frame l k).link.trans (State.setEntry_frame _ l _)).trans
    (State.onRenewal_frame _ l f).link) (fun _ _ => id) (fun none => ?_) fun x before renews => ?_
  · cases none.symm.trans entry
  · cases before.symm.trans entry
    exact ⟨e', State.entry_setEntry_same _ l _, role, by simpa [State.onRenewal] using own renews⟩

/-- A promotion makes NEXT the CURRENT, the outbound slot of either role in IDLE (R24, R103, R105, R132). -/
theorem LinkEntry.Renews.promoted (h : e.Renews k c) (next : k.next.isSome) {owed : Bool}
    (hub : owed = true → e.role = .hub) (grace ticks : Nat) :
    (e.promoted (k.slot (outboundRoleOf e c)).isSome).Renews (k.promote grace)
      { c.promoted ticks with confirmOwed := owed } where
  allows := Role.allows_idle _
  next := iff_of_false nofun (by simp [RenewalContext.promoted])
  step := nofun
  retry := nofun
  confirm := hub
  asked := h.asked
  beat := by
    have beat := h.beat
    rw [outboundRoleOf_unproved (c := { c.promoted ticks with confirmOwed := owed }) nofun]
    change _ ↔ k.next.isSome = true ∧ e.policy.beatTicks ≠ 0
    simp only [LinkEntry.promoted, next, true_and]
    split
    · next had => rw [beat, and_iff_right had]
    · exact beatLoad_isOn _

theorem State.RenewalSound.promote (sound : s.RenewalSound) (entry : s.entry l = some e)
    (next : (s.keySet l).next.isSome) : (s.promote l e).RenewalSound := by
  have moved : ∀ {f : RenewalContext → RenewalContext} (owed : Bool), (owed = true → e.role = .hub) →
      f (s.renewal l) = { (s.renewal l).promoted e.policy.renewTicks with confirmOwed := owed } →
      (((s.setKeys l ((s.keySet l).promote e.policy.graceTicks)).setEntry l
        (some (e.promoted (s.outboundSlot l).isSome))).onRenewal l f).RenewalSound := by
    intro f owed hub context
    refine sound.rewritten entry (e' := e.promoted (s.outboundSlot l).isSome) rfl fun renews => ?_
    rw [context, State.outboundSlot_eq entry]
    exact renews.promoted next hub _ _
  unfold State.promote
  dsimp only
  split
  · exact moved (s.renewal l).confirmOwed (fun owed => (sound.renews entry).confirm owed) rfl
  · next hub =>
    exact State.RenewalSound.contest (fun sound => sound.requestConfirm l)
      ((moved true (fun _ => hub) rfl).withdraw l _) l

/-- A good verdict follows an acceptance, and a promotion one under NEXT (R47, R62). -/
theorem State.RenewalSound.acceptInbound (sound : s.RenewalSound) (entry : s.entry l = some e) {role : SlotRole}
    {x : KeySlot} (slot : (s.keySet l).slot role = some x) (record : List Byte) :
    (s.acceptInbound l e role x record).RenewalSound := by
  have crossed := (sound.withSlot slot
    { x.chargeIn (recordLength record) with window := x.window.accept (recordSequence record) }).softCross l role
  unfold State.acceptInbound
  dsimp only
  split
  · next under =>
    subst under
    refine (crossed.promote ?_ ?_).goodVerdict l
    · exact ((State.softCross_frame _ l .next).entry l).trans entry
    · exact State.softCross_next (by simp [KeySet.withSlot])
  · exact crossed.goodVerdict l

/-- An OFFER that is not stale leaves a NEXT (R22). -/
theorem KeySet.install_next {t : OfferText} (new : k.installation t ≠ .stale) (x : KeySlot) :
    (k.install (k.installation t) t.epoch x).next.isSome := by
  unfold KeySet.install
  split
  case h_1 stale => exact absurd stale new
  case h_2 keep =>
    have kept : k.holds .next (fun n => n.epoch == t.epoch && n.key == t.key && n.salt == t.salt) = true := by
      unfold KeySet.installation at keep
      split_ifs at keep
      assumption
    obtain ⟨n, slot, -⟩ := KeySet.holds_iff.mp kept
    exact Option.isSome_iff_exists.mpr ⟨n, slot⟩
  case h_3 => rfl
  case h_4 => split <;> rfl

/-- A shop in PROVED sends under its NEXT (R23, R99). -/
theorem LinkEntry.Renews.proved (h : e.Renews k c) (shop : e.role = .shop) (role : e'.role = e.role)
    (next : k'.next.isSome) (beat : e'.beatTimer.isOn = true ↔ e'.policy.beatTicks ≠ 0) (timer : Timer) :
    e'.Renews k' { c with
      state := .proved, stepTimer := .stopped, retryOwed := false, claimDue := false, renewalTimer := timer } where
  allows := by simp [role, shop, Role.allows]
  next := by simp [next]
  step := nofun
  retry := nofun
  confirm owed := role ▸ h.confirm owed
  asked reason := role ▸ h.asked reason
  beat := by simpa [outboundRoleOf, role, shop, KeySet.slot, next] using beat

/-- A link with an outbound slot has its beat timer running unless beat_ticks is 0 (R132). -/
theorem LinkEntry.Renews.beat_of_outbound (h : e.Renews k c) (shop : e.role = .shop)
    (outbound : c.state = .proved ∨ k.current ≠ none) : e.beatTimer.isOn = true ↔ e.policy.beatTicks ≠ 0 := by
  have slot : (k.slot (outboundRoleOf e c)).isSome := by
    by_cases proved : c.state = .proved
    · simpa [outboundRoleOf, shop, proved, KeySet.slot] using h.next.mpr (.inr proved)
    · rw [outboundRoleOf_unproved proved]
      exact Option.isSome_iff_ne_none.mpr (outbound.resolve_left proved)
  rw [h.beat, and_iff_right slot]

theorem State.RenewalSound.offerTaken (sound : s.RenewalSound) (entry : s.entry l = some e) (shop : e.role = .shop)
    (role : e'.role = e.role) (next : k.next.isSome)
    (beat : e'.beatTimer.isOn = true ↔ e'.policy.beatTicks ≠ 0) (timer : Timer) :
    (s.offerTaken l k e' timer).RenewalSound := by
  have proved := sound.rewritten (k := k) (f := fun c => { c with
    state := .proved, stepTimer := .stopped, retryOwed := false, claimDue := false, renewalTimer := timer })
    entry role fun renews => renews.proved shop role next beat timer
  exact State.RenewalSound.contest (fun sound => sound.requestTraffic l .proof) (proved.withdraw l Work.isAsk) l

theorem State.RenewalSound.validOffer (sound : s.RenewalSound) {t : OfferText}
    (shop : ∀ e, s.entry l = some e → e.role = .shop) : (s.validOffer l t).RenewalSound := by
  cases entry : s.entry l with
  | none => simpa only [State.validOffer, entry] using sound
  | some e =>
    by_cases stale : (s.keySet l).installation t = .stale
    · simpa only [State.validOffer, entry, stale, if_true] using sound
    · have next := KeySet.install_next stale (newSlot e.policy t.epoch t.key t.salt s.tickCount)
      have taken := fun e' => sound.offerTaken entry (shop e entry) (e' := e') (next := next)
      have beats := (sound.renews entry).beat_of_outbound (shop e entry)
      cases loses : (s.keySet l).losesCurrent ((s.keySet l).installation t) with
      | true =>
        rw [State.validOffer_loses entry stale loses]
        refine taken _ (by rfl) ?_ _
        dsimp only
        split
        · next proved => exact beats (.inl proved)
        · exact beatLoad_isOn _
      | false =>
        rw [State.validOffer_keeps entry stale (shop e entry) loses]
        refine taken _ (by rfl) ?_ _
        dsimp only
        split
        · next outbound => exact beats outbound
        · exact beatLoad_isOn _

/-! ## HELD records -/

/-- A HELD OFFER stands at a shop and a HELD ASK at a hub, as their releases need (R15, R64, R96, R99). -/
theorem State.RenewalSound.releaseActs (sound : s.RenewalSound) {content : RootContent} (held : s.Holds l content) :
    (s.releaseActs l content).RenewalSound := by
  obtain ⟨e, entry, fits⟩ := sound.fits held
  cases content with
  | offer t =>
    refine sound.validOffer fun e' same => ?_
    cases entry.symm.trans same
    exact fits
  | ask reason =>
    refine State.RenewalSound.trigger (sound.onRenewal fun e' same renews => ?_) l reason
    cases entry.symm.trans same
    exact { renews with asked := fun _ => fits }

theorem State.RenewalSound.release (sound : s.RenewalSound) {content : RootContent} (held : s.Holds l content)
    (tag : Byte) (record : List Byte) : (s.release l tag record content).RenewalSound :=
  (((sound.releaseActs held).place _).removeFirst l).settleFirst l

theorem State.RenewalSound.reportWrite (sound : s.RenewalSound) (e : EntryNo) : (s.reportWrite e).RenewalSound := by
  unfold State.reportWrite
  split
  · exact sound
  · split
    · exact sound
    · next first =>
      split
      · next state _ =>
        split
        · exact sound.release (State.holds_of_firstJob first state) _ _
        · exact sound
      · split
        · split
          · exact sound.claim _ .ready
          · exact sound
        · exact sound
      · exact sound

end Sys2Proof.Machine
end

section
/-! PROOFS. Every command keeps the renewal contexts, the NEXT slots and the beat timers in account (R88, R132). -/

namespace Sys2Proof.Machine

open Sys2Proof

variable {s t u : State} {l : Link} {e : LinkEntry}

/-! ## Commands that do not move what a link holds -/

theorem FaultFrame.renewing (frame : FaultFrame s t) : t.renewing = s.renewing := by
  simp only [State.renewing, frame.keys, frame.links, frame.renewals, frame.pool]

theorem State.startWrite_renewing (s : State) : s.startWrite.renewing = s.renewing := by
  unfold State.startWrite
  split <;> rfl

theorem State.cutWrite_renewing (s : State) : s.cutWrite.renewing = s.renewing := by
  unfold State.cutWrite
  split
  · rfl
  · split <;> rfl

theorem State.beginTransaction_renewing (s : State) (lead : Byte) : (s.beginTransaction lead).renewing = s.renewing := by
  unfold State.beginTransaction
  split <;> rfl

theorem State.takeUnknown_renewing (s : State) : s.takeUnknown.renewing = s.renewing := by
  unfold State.takeUnknown
  split
  · rfl
  · split <;> rfl

theorem takeHello_renewing (r : Request) (s : State) : (takeHello r s).renewing = s.renewing := by
  unfold takeHello
  split <;> rfl

theorem takeStatus_renewing (r : Request) (s : State) : (takeStatus r s).renewing = s.renewing := by
  unfold takeStatus
  split <;> rfl

theorem State.judgeFaults_renewing (s : State) (l : Link) (f : FaultRecord → FaultRecord) (before : Bool) :
    ((s.onFaults l f).judgePending l before).renewing = s.renewing :=
  ((s.onFaults_frame l f).trans (State.judgePending_frame _ l before)).renewing

theorem takeFaultClear_renewing (r : Request) (s : State) : (takeFaultClear r s).renewing = s.renewing := by
  unfold takeFaultClear
  split
  · rfl
  · split
    · rfl
    · unfold State.faultClear
      split
      · rfl
      · exact s.judgeFaults_renewing _ _ _

theorem takeFaultEnable_renewing (r : Request) (s : State) : (takeFaultEnable r s).renewing = s.renewing := by
  unfold takeFaultEnable
  split
  · rfl
  · split
    · rfl
    · exact s.judgeFaults_renewing _ _ _

theorem takeCounterSet_renewing (r : Request) (s : State) : (takeCounterSet r s).renewing = s.renewing := by
  unfold takeCounterSet
  split
  · rfl
  · split <;> rfl

theorem State.setMode_renewing (s : State) (mode : NoticeMode) : (s.setMode mode).renewing = s.renewing :=
  (judgeLinks_frame s _ { s with noticeMode := mode }).renewing

theorem takeNoticeMode_renewing (r : Request) (s : State) : (takeNoticeMode r s).renewing = s.renewing := by
  unfold takeNoticeMode
  split
  · rfl
  · exact s.setMode_renewing _
  · split
    · rfl
    · exact s.setMode_renewing _

theorem takeLogRead_renewing (r : Request) (s : State) : (takeLogRead r s).renewing = s.renewing := by
  unfold takeLogRead
  split <;> rfl

theorem takeRootLoad_renewing (r : Request) (s : State) : (takeRootLoad r s).renewing = s.renewing := by
  unfold takeRootLoad
  split
  · rfl
  · split
    · rfl
    · split
      · rfl
      · exact State.requestWrite_renewing _ _

theorem takeRootErase_renewing (r : Request) (s : State) : (takeRootErase r s).renewing = s.renewing := by
  unfold takeRootErase
  split
  · rfl
  · split
    · rfl
    · split
      · rfl
      · exact State.requestWrite_renewing _ _

theorem takeRootRead_renewing (r : Request) (s : State) : (takeRootRead r s).renewing = s.renewing := by
  unfold takeRootRead
  split <;> rfl

theorem takeLinkRead_renewing (r : Request) (s : State) : (takeLinkRead r s).renewing = s.renewing := by
  unfold takeLinkRead
  split
  · rfl
  · split
    · rfl
    · split <;> rfl

/-! ## Restarts and the port (R34, R89, R114, R163) -/

/-- A restart closes every link and leaves no job. -/
theorem State.wiped_renewalSound (s : State) (cause : RestartCause) : (s.wiped cause).RenewalSound := by
  refine State.renewalSound_iff.mpr ⟨fun l e entry => ?_, fun l content held => ?_⟩
  · cases (State.reset_entry l).symm.trans entry
  · obtain ⟨j, member, -⟩ := held
    exact absurd member List.not_mem_nil

theorem State.RenewalSound.removeHead (sound : s.RenewalSound) : s.removeHead.RenewalSound := by
  unfold State.removeHead
  split
  · exact sound
  · split
    · exact State.RenewalSound.serveFreed (sound.of_eq rfl)
    · exact sound.of_eq rfl

theorem State.RenewalSound.endRead (sound : s.RenewalSound) (shifted : Nat) : (s.endRead shifted).RenewalSound := by
  unfold State.endRead
  split
  · exact sound
  · split
    · exact State.RenewalSound.removeHead (sound.of_eq rfl)
    · exact sound.of_eq rfl

theorem State.RenewalSound.endTransaction (sound : s.RenewalSound) (bytes : List Byte) :
    (s.endTransaction bytes).RenewalSound := by
  unfold State.endTransaction
  split
  · exact sound
  · split
    · split
      · exact sound
      · unfold State.judgeFrame
        split
        · exact sound.of_eq rfl
        · split
          · exact State.wiped_renewalSound _ _
          · split <;> exact sound.of_eq rfl
    · exact sound
    · exact sound

/-! ## The tick (R26, R129, R132) -/

theorem State.RenewalSound.tick (sound : s.RenewalSound) : s.tick.RenewalSound := by
  have entries : ∀ l, s.tick.entry l = (s.entry l).map LinkEntry.tick := fun l => Table.look_each _ _ l
  have slots : ∀ l, s.tick.keySet l = (s.keySet l).tick := fun l => Table.look_each _ _ l
  have rounds : ∀ l, s.tick.renewal l = (s.renewal l).tick := fun l => Table.look_each _ _ l
  refine State.renewalSound_iff.mpr ⟨fun l x entry => ?_, fun l content held => ?_⟩
  · obtain ⟨e, before, rfl⟩ := Option.map_eq_some_iff.mp ((entries l).symm.trans entry)
    rw [slots, rounds]
    have rested : e.Renews (s.keySet l) (s.renewal l).tick :=
      (sound.renews before).rests ⟨rfl, by simp [RenewalContext.tick], id, id, rfl⟩
    have ticked : e.Renews (s.keySet l).tick (s.renewal l).tick := rested.slots rfl rfl
    exact ticked.supervised rfl (by simpa [LinkEntry.tick] using ticked.beat)
  · obtain ⟨e, before, fits⟩ := sound.fits (content := content) (l := l) held
    exact ⟨e.tick, by rw [entries, before, Option.map_some], fits⟩

theorem State.RenewalSound.expireGrace (sound : s.RenewalSound) (l : Link) : (s.expireGrace l).RenewalSound := by
  unfold State.expireGrace
  split
  · exact sound.setKeys rfl rfl
  · exact sound

/-! ## The link supervisor's requests (R108, R118, R119, R121) -/

/-- An ATTACH leaves a link that holds no slot, its context in IDLE and its beat timer stopped. -/
theorem LinkEntry.Renews.attached (n : EntryNo) (c : RootContents) (items : List PolicyItem) :
    (attachedEntry n c items).Renews KeySet.empty RenewalContext.initial where
  allows := Role.allows_idle _
  next := by simp [KeySet.empty, RenewalContext.initial]
  step := nofun
  retry := nofun
  confirm := nofun
  asked unset := absurd rfl unset
  beat := by simp [outboundRoleOf, KeySet.empty, KeySet.slot, attachedEntry, RenewalContext.initial]

theorem State.RenewalSound.attachLink (sound : s.RenewalSound) (closed : s.holding l = .closed) (n : EntryNo)
    (c : RootContents) (items : List PolicyItem) : (s.attachLink l n c items).RenewalSound := by
  have entry : s.entry l = none := congrArg Holding.entry closed
  have keys : s.keySet l = KeySet.empty := congrArg Holding.keys closed
  have renewal : s.renewal l = RenewalContext.initial := congrArg Holding.renewal closed
  refine State.RenewalSound.trigger (State.RenewalSound.of_eq (s := s.setEntry l (some (attachedEntry n c items))) ?_
    (by rfl)) l .start
  refine State.renewalSound_iff.mpr ⟨fun m x here => ?_, fun m content held => ?_⟩
  · by_cases same : m = l
    · subst same
      rw [State.entry_setEntry_same] at here
      obtain rfl := Option.some.inj here
      rw [State.setEntry_keySet, State.setEntry_renewal, keys, renewal]
      exact .attached n c items
    · exact sound.renews ((State.entry_setEntry_ne s l m _ same).symm.trans here)
  · obtain ⟨x, here, fits⟩ := sound.fits (content := content) (l := m) held
    have other : m ≠ l := fun same => nomatch (same ▸ entry).symm.trans here
    exact ⟨x, (State.entry_setEntry_ne s l m _ other).trans here, fits⟩

theorem State.RenewalSound.detachLink (sound : s.RenewalSound) (l : Link) (e : LinkEntry) :
    (s.detachLink l e).RenewalSound := by
  rw [State.detachLink_eq]
  refine State.RenewalSound.serveFreed (State.renewalSound_iff.mpr ⟨fun m x entry => ?_, fun m content held => ?_⟩)
  · have other : m ≠ l := by
      rintro rfl
      cases (Table.look_put_same s.links m none).symm.trans entry
    have before : s.entry m = some x := (Table.look_put_ne s.links l m none other).symm.trans entry
    have keys : (s.droppedLink l e).keySet m = s.keySet m := Table.look_put_ne s.keys l m _ other
    have renewal : (s.droppedLink l e).renewal m = s.renewal m := Table.look_put_ne s.renewals l m _ other
    rw [keys, renewal]
    exact sound.renews before
  · obtain ⟨j, member, rfl, state⟩ := held
    obtain ⟨before, other⟩ := List.mem_filter.mp member
    obtain ⟨x, entry, fits⟩ := sound.fits ⟨j, before, rfl, state⟩
    exact ⟨x, (Table.look_put_ne s.links l j.link none (of_decide_eq_true other)).trans entry, fits⟩

/-- A POLICY stops the beat timer where beat_ticks becomes 0 and starts it where beat_ticks leaves 0 (R121). -/
theorem LinkEntry.Renews.withPolicy {k : KeySet} {c : RenewalContext} (h : e.Renews k c) (items : List PolicyItem) :
    (e.withPolicy items (k.slot (outboundRoleOf e c)).isSome).Renews k c := by
  refine h.supervised rfl ?_
  have beat := h.beat
  simp only [LinkEntry.withPolicy, beatAfterPolicy]
  split_ifs with zero was outbound
  · simp [zero]
  · simp [zero, outbound]
  · simp [outbound]
  · simpa [zero, was] using beat

theorem State.RenewalSound.takePolicy (sound : s.RenewalSound) (r : Request) : (takePolicy r s).RenewalSound := by
  unfold Machine.takePolicy
  split
  · exact sound.place _
  · split
    · exact sound.place _
    · next attached =>
      have entry := State.entry_of_attachedLink attached
      refine State.RenewalSound.place (sound.setEntry entry (by rfl) fun renews => ?_) _
      rw [State.outboundSlot_eq entry]
      exact renews.withPolicy _

theorem onAttached_renewalSound {f : Request → Link → LinkEntry → State → State} (sound : s.RenewalSound) (r : Request)
    (h : ∀ l e, (f r l e s).RenewalSound) : (onAttached f r s).RenewalSound := by
  unfold onAttached
  split
  · exact sound.place _
  · split
    · exact sound.place _
    · exact h _ _

theorem State.RenewalSound.takeRenew (sound : s.RenewalSound) (r : Request) : (takeRenew r s).RenewalSound := by
  refine onAttached_renewalSound sound r fun l _ => ?_
  split
  · exact ((sound.trigger l .host).place _).serveFreed
  · exact sound.place _

/-! ## The record engine (R15, R57, R59 to R66) -/

theorem State.RenewalSound.takeEncipher (sound : s.RenewalSound) (r : Request) : (takeEncipher r s).RenewalSound := by
  unfold Machine.takeEncipher
  split
  · exact sound.place _
  · split
    · exact sound.place _
    · split
      · exact sound.place _
      · next slot =>
        split
        · exact sound.place _
        · split
          · exact (sound.acceptOutbound slot _ _).serveFreed
          · exact ((sound.refuseForWear _ _).place _).serveFreed

theorem State.RenewalSound.dropAtHeader (sound : s.RenewalSound) (r : Request) (l : Link) (e : LinkEntry)
    (record : List Byte) (k : FaultKind) : (s.dropAtHeader r l e record k).RenewalSound := by
  unfold State.dropAtHeader
  dsimp only
  refine State.RenewalSound.serveFreed (State.RenewalSound.place ?_ _)
  split
  · exact sound.occurrence l k _ _
  · split
    · split
      · exact (sound.chosen.occurrence l k _ _).badVerdict l
      · exact (sound.chosen.badVerdict l).occurrence l k _ _
    · exact (sound.occurrence l k _ _).badVerdict l

theorem State.RenewalSound.acceptDecipher (sound : s.RenewalSound) (r : Request) (l : Link) (work : Work) :
    (s.acceptDecipher r l work).RenewalSound := by
  unfold State.acceptDecipher
  split
  · exact sound.append l work
  · exact sound.place _

theorem State.RenewalSound.takeDecipher (sound : s.RenewalSound) (r : Request) : (takeDecipher r s).RenewalSound := by
  unfold Machine.takeDecipher
  split
  · exact sound.place _
  · split
    · exact sound.place _
    · unfold State.checkHeader
      split
      · exact sound.dropAtHeader r _ _ _ _
      · split
        · split
          · exact sound.dropAtHeader r _ _ _ _
          · exact sound.acceptDecipher r _ _
        · split
          · exact sound.dropAtHeader r _ _ _ _
          · split
            · exact sound.dropAtHeader r _ _ _ _
            · exact sound.acceptDecipher r _ _

theorem State.RenewalSound.grant (sound : s.RenewalSound) (lane : Lane) : (s.grant lane).RenewalSound := by
  unfold State.grant
  split
  · next m _ _ =>
    have counted : (s.takeCounter m).RenewalSound := by
      unfold State.takeCounter
      split
      · exact sound
      · exact (sound.claim m _).of_eq rfl
    exact counted.of_tables rfl rfl rfl ((s.takeCounter m).onFirst_lane_evolves m lane).held
  · exact sound
  · exact sound

theorem State.RenewalSound.finishLane (sound : s.RenewalSound) (lane : Lane) (l : Link) :
    (s.finishLane lane l).RenewalSound :=
  ((sound.removeLane lane).settleFirst l).serveFreed

theorem State.RenewalSound.sealing (sound : s.RenewalSound) (x : Seal) : (s.sealing x).RenewalSound := sound.of_eq rfl

theorem State.RenewalSound.completeEncipher (sound : s.RenewalSound) (lane : Lane) :
    (s.completeEncipher lane).RenewalSound := by
  unfold State.completeEncipher
  split
  · exact sound
  · split
    · exact ((sound.sealing _).place _).finishLane lane _
    · exact sound

theorem State.RenewalSound.dropInbound (sound : s.RenewalSound) (l : Link) (k : FaultKind) (record : List Byte) :
    (s.dropInbound l k record).RenewalSound :=
  (sound.badVerdict l).occurrence l k _ _

theorem State.RenewalSound.judgeTraffic (sound : s.RenewalSound) (entry : s.entry l = some e) (slot : SlotBinding)
    (record : List Byte) : (s.judgeTraffic l e slot record).1.RenewalSound := by
  unfold State.judgeTraffic
  split
  · exact sound.dropInbound l .tag record
  · split
    · exact sound.dropInbound l .epoch record
    · split
      · exact sound.dropInbound l .epoch record
      · next here =>
        split
        · exact sound.acceptInbound entry here record
        · dsimp only
          unfold State.dropDuplicate
          split
          · exact sound.dropInbound l .replay record
          · exact (s.toleratedDuplicate_frame l).renewalSound sound
        · exact sound.dropInbound l .late record

theorem State.RenewalSound.completeTraffic (sound : s.RenewalSound) (lane : Lane) :
    (s.completeTraffic lane).RenewalSound := by
  unfold State.completeTraffic
  split
  · exact sound
  · split
    · next entry _ => exact ((sound.judgeTraffic entry _ _).place _).finishLane lane _
    · exact sound

/-- The plaintext of a root record is read as what its link's role receives (R13, R14, R15). -/
theorem rootContentOf_fits {role : Role} {p : List Byte} {content : RootContent}
    (read : rootContentOf role p = some content) : content.Fits role := by
  cases role with
  | hub =>
    obtain ⟨reason, -, rfl⟩ := Option.map_eq_some_iff.mp read
    rfl
  | shop =>
    obtain ⟨text, -, rfl⟩ := Option.map_eq_some_iff.mp read
    rfl

theorem State.RenewalSound.completeRoot (sound : s.RenewalSound) (lane : Lane) : (s.completeRoot lane).RenewalSound := by
  have held := (s.completeRoot_runs lane).held
  unfold State.completeRoot at held ⊢
  split
  · exact sound
  · next inLane =>
    simp only [inLane] at held
    split
    · next entry work =>
      simp only [entry, work] at held
      split
      · exact State.RenewalSound.finishLane (State.RenewalSound.place (sound.occurrence _ _ _ _) _) lane _
      · next judged =>
        simp only [judged] at held
        have same := State.requestWrite_renewing
        refine sound.of_held (congrArg (·.1) (same _ _)) (congrArg (·.2.1) (same _ _)) (congrArg (·.2.2.1) (same _ _))
          fun m content now => ?_
        rcases held m content now with old | ⟨e, p, entry, read⟩
        · exact sound.fits old
        · exact ⟨e, entry, rootContentOf_fits read⟩
    · exact sound

/-- An emission starts a step timer only in OFFERED and ASKED (R94, R98). -/
theorem State.RenewalSound.emitted (sound : s.RenewalSound) (l : Link) (work : Work) (ticks : Nat) :
    (s.onRenewal l fun c => c.emitted work ticks).RenewalSound := by
  refine sound.onRenewal fun e _ renews => ?_
  unfold RenewalContext.emitted
  split
  · next told =>
    have waits : (s.renewal l).state = .offered ∨ (s.renewal l).state = .asked := by
      simp only [Bool.or_eq_true, Bool.and_eq_true, decide_eq_true_eq] at told
      exact told.imp And.right And.right
    exact { renews with step := fun _ => waits.imp id .inl }
  · exact renews

theorem State.RenewalSound.completeControl (sound : s.RenewalSound) (lane : Lane) :
    (s.completeControl lane).RenewalSound := by
  unfold State.completeControl
  split
  · exact sound
  · split
    · exact sound
    · split
      · exact sound
      · exact (((sound.sealing _).place _).emitted _ _ _).finishLane lane _

theorem State.RenewalSound.completeWrite (sound : s.RenewalSound) : s.completeWrite.RenewalSound := by
  unfold State.completeWrite
  split
  · exact sound
  · next w _ =>
    unfold State.finishWrite
    have landed : State.RenewalSound { s.landWrite w with
        nvWrite := none, nvQueue := s.nvQueue.tail ++ if w.again then [w.entry] else [] } := sound.of_eq rfl
    have replied : ∀ {u : State}, u.RenewalSound → (u.placeRootReplies w.entry).RenewalSound :=
      fun sound => sound.of_eq rfl
    exact ((replied (landed.reportWrite w.entry)).of_eq (State.startWrite_renewing _)).serveFreed

/-! ## One step -/

/-- The invariant goes over from `s` to `t`, where CLOSED links hold nothing in `s`. -/
def State.KeepsRenewal (s t : State) : Prop :=
  (∀ l, s.entry l = none → s.holding l = .closed) → s.RenewalSound → t.RenewalSound

theorem State.KeepsRenewal.of_sound (h : s.RenewalSound → t.RenewalSound) : s.KeepsRenewal t := fun _ => h

theorem State.KeepsRenewal.of_eq (same : t.renewing = s.renewing) : s.KeepsRenewal t :=
  .of_sound fun sound => sound.of_eq same

/-- A command goes on from a state that holds what `s` does. -/
theorem State.KeepsRenewal.since (h : u.KeepsRenewal t) (same : u.renewing = s.renewing) : s.KeepsRenewal t := by
  intro closed sound
  refine h (fun l entry => ?_) (sound.of_eq same)
  simp only [State.renewing, Prod.mk.injEq] at same
  obtain ⟨keys, links, renewals, -⟩ := same
  have holding : u.holding l = s.holding l := by
    simp only [State.holding, State.entry, State.keySet, State.renewal, keys, links, renewals]
  exact holding.trans (closed l ((congrArg Holding.entry holding).symm.trans entry))

theorem takeAttach_keepsRenewal (r : Request) (s : State) : s.KeepsRenewal (takeAttach r s) := by
  intro closed sound
  unfold takeAttach
  split
  · exact sound.place _
  · split
    · exact sound.place _
    · split
      · exact sound.place _
      · next unattached =>
        split
        · exact sound.place _
        · split
          · exact sound.place _
          · exact ((sound.attachLink (closed _ (by simpa using unattached)) _ _ _).place _).serveFreed

theorem act_keepsRenewal {f : State → State} (h : ∀ u, State.KeepsRenewal u (f u)) (next : act f s = .next t) :
    s.KeepsRenewal t := by
  obtain rfl := Host.Outcome.next.inj next
  split
  · exact h s
  · split
    · split
      · exact .of_eq rfl
      · exact (h _).since rfl
    · exact .of_eq rfl

theorem act_takeRequest_keepsRenewal {kind : Byte} {f : Request → State → State}
    (h : ∀ r u, State.KeepsRenewal u (f r u)) (next : act (takeRequest kind f) s = .next t) : s.KeepsRenewal t := by
  refine act_keepsRenewal (fun u => ?_) next
  unfold takeRequest
  split
  · exact .of_eq rfl
  · split
    · exact (h _ _).since rfl
    · exact .of_eq rfl

/-- Every command keeps the renewal contexts sound. -/
theorem exec_keepsRenewal {c : Instr} (next : exec c s = .next t) : s.KeepsRenewal t := by
  have acts : ∀ {f : State → State}, (∀ {u : State}, u.RenewalSound → (f u).RenewalSound) →
      act f s = .next t → s.KeepsRenewal t := fun h next => act_keepsRenewal (fun _ => .of_sound h) next
  have takes : ∀ {kind : Byte} {f : Request → State → State},
      (∀ r {u : State}, u.RenewalSound → (f r u).RenewalSound) →
      act (takeRequest kind f) s = .next t → s.KeepsRenewal t :=
    fun h next => act_takeRequest_keepsRenewal (fun r _ => .of_sound (h r)) next
  have answers : ∀ {kind : Byte} {f : Request → State → State}, (∀ r u, (f r u).renewing = u.renewing) →
      act (takeRequest kind f) s = .next t → s.KeepsRenewal t :=
    fun same next => act_takeRequest_keepsRenewal (fun r u => .of_eq (same r u)) next
  have reads : ∀ {kind : Byte} {f : Request → Link → LinkEntry → State → OutFrame},
      act (takeRequest kind (onAttached fun r l e u => u.place (f r l e u))) s = .next t → s.KeepsRenewal t :=
    fun next => takes (fun r _ sound => onAttached_renewalSound sound r fun _ _ => sound.place _) next
  have claims : ∀ c : ControlClaim, act (fun u => (u.takeControlClaim c).serveFreed) s = .next t → s.KeepsRenewal t :=
    fun c next => acts (fun sound => (sound.takeControlClaim c).serveFreed) next
  cases c with
  | frameArrival bytes => exact acts (fun sound => sound.endTransaction bytes) next
  | readLeadByte => exact act_keepsRenewal (fun u => .of_eq (u.beginTransaction_renewing readLead)) next
  | readEnd shifted => exact acts (fun sound => sound.endRead shifted) next
  | restart => exact acts (fun _ => State.wiped_renewalSound _ .commanded) next
  | resetAssert =>
    obtain rfl := Host.Outcome.next.inj next
    split
    · exact .of_eq s.cutWrite_renewing
    · exact .of_eq rfl
  | resetRelease =>
    obtain rfl := Host.Outcome.next.inj next
    split
    · split
      · exact .of_sound fun _ => State.wiped_renewalSound _ .pin
      · exact .of_eq rfl
    · exact .of_eq rfl
  | powerOn =>
    obtain rfl := Host.Outcome.next.inj next
    exact .of_sound fun _ => State.wiped_renewalSound _ .power
  | powerLoss =>
    obtain rfl := Host.Outcome.next.inj next
    split
    · exact .of_sound fun _ => (State.wiped_renewalSound s.cutWrite s.cause).of_eq rfl
    · exact .of_eq rfl
  | hello => exact answers takeHello_renewing next
  | status => exact answers takeStatus_renewing next
  | unknownKind => exact act_keepsRenewal (fun u => .of_eq u.takeUnknown_renewing) next
  | rootLoad => exact answers takeRootLoad_renewing next
  | rootErase => exact answers takeRootErase_renewing next
  | rootRead => exact answers takeRootRead_renewing next
  | attach => exact act_takeRequest_keepsRenewal takeAttach_keepsRenewal next
  | detach =>
    exact takes (fun r _ sound => onAttached_renewalSound sound r fun l e => (sound.detachLink l e).place _) next
  | policy => exact takes (fun r _ sound => sound.takePolicy r) next
  | linkRead => exact answers takeLinkRead_renewing next
  | keyRead => exact reads next
  | renew => exact takes (fun r _ sound => sound.takeRenew r) next
  | encipher => exact takes (fun r _ sound => sound.takeEncipher r) next
  | decipher => exact takes (fun r _ sound => sound.takeDecipher r) next
  | faultRead => exact reads next
  | faultClear => exact answers takeFaultClear_renewing next
  | faultEnable => exact answers takeFaultEnable_renewing next
  | counterSet => exact answers takeCounterSet_renewing next
  | noticeMode => exact answers takeNoticeMode_renewing next
  | logRead => exact answers takeLogRead_renewing next
  | tick => exact acts (fun sound => sound.tick) next
  | graceExpiry l => exact acts (fun sound => sound.expireGrace l) next
  | offerTimerExpiry l => exact claims (.offerTimer l) next
  | askTimerExpiry l => exact claims (.askTimer l) next
  | restTimerExpiry l => exact claims (.restTimer l) next
  | renewalTimerExpiry l => exact claims (.renewalTimer l) next
  | silenceExpiry l => exact claims (.silence l) next
  | beatExpiry l => exact claims (.beat l) next
  | preparingOfferRequest l => exact claims (.preparing l) next
  | askingAskRequest l => exact claims (.asking l) next
  | retryOwedRequest l => exact claims (.retry l) next
  | confirmBeatRequest l => exact claims (.confirm l) next
  | grant lane => exact acts (fun sound => sound.grant lane) next
  | encipherCompletion lane => exact acts (fun sound => sound.completeEncipher lane) next
  | trafficDecipherCompletion lane => exact acts (fun sound => sound.completeTraffic lane) next
  | rootDecipherCompletion lane => exact acts (fun sound => sound.completeRoot lane) next
  | controlJobCompletion lane => exact acts (fun sound => sound.completeControl lane) next
  | nvWriteStart => exact act_keepsRenewal (fun u => .of_eq u.startWrite_renewing) next
  | nvWriteCompletion => exact acts (fun sound => sound.completeWrite) next

/-- Settles O56: every command keeps each attached link's round, its slots and its beat timer fitting, and an ATTACH
begins at a link that holds nothing. -/
theorem stepKeepsRenewal : Obligations.StepKeepsRenewal := by
  unfold Obligations.StepKeepsRenewal
  intro s t bindings _ sound next
  have closed : ∀ l, s.entry l = none → s.holding l = .closed := fun l entry => bindings.closed entry
  unfold step at next
  split at next
  · obtain rfl := Host.Outcome.next.inj next
    exact sound.of_eq rfl
  · exact ((exec_keepsRenewal next).since rfl) closed sound

end Sys2Proof.Machine
end

section
/-! PROOFS. Triggers and RENEW (R90, R91, R92, R108), the expiries of the renewal and silence timers (R107, R130, R131) and
the requests of a tick (R93, R95, R97, R98, R104). -/

namespace Sys2Proof.Machine

open Sys2Proof

variable {s : State} {l : Link} {e : LinkEntry}

/-! ## Triggers (R90, R91, R92) -/

theorem RenewalState.isOpen_eq_false {c : RenewalState} (idle : c ≠ .idle) (resting : c ≠ .resting) :
    c.isOpen = false := by
  rw [Bool.eq_false_iff, Ne, RenewalState.isOpen_iff]
  exact not_or.mpr ⟨idle, resting⟩

theorem State.onRenewal_onRenewal (s : State) (l : Link) (f g : RenewalContext → RenewalContext) :
    (s.onRenewal l f).onRenewal l g = s.onRenewal l fun c => g (f c) := by
  simp only [State.onRenewal, State.setRenewal, State.renewal, Table.look_put_same, Table.put_put]

theorem State.trigger_busy (busy : (s.renewal l).state.isOpen = false) (reason : Reason) :
    s.trigger l reason = s.onRenewal l fun c => { c with lastReason := some reason } := by
  simp only [State.trigger, busy, Bool.false_eq_true, if_false]

/-- A context after a trigger has begun a round in a state (R91, R92). -/
def RenewalContext.begun (state : RenewalState) (reason : Reason) (c : RenewalContext) : RenewalContext :=
  { c with
    state := state, lastReason := some reason, roundReason := some reason, triesUsed := 0, retryOwed := false,
    stepTimer := .stopped, claimDue := false }

section Begun

variable (isOpen : (s.renewal l).state = .idle ∨ (s.renewal l).state = .resting) (entry : s.entry l = some e)

include isOpen entry

theorem State.trigger_hub (hub : e.role = .hub) (reason : Reason) :
    s.trigger l reason = (s.onRenewal l (RenewalContext.begun .preparing reason)).requestOffer l := by
  rw [State.trigger, if_pos ((RenewalState.isOpen_iff _).mpr isOpen),
    State.startRound_hub (s := s.onRenewal l _) entry hub, State.onRenewal_onRenewal]
  rfl

theorem State.trigger_shop (shop : e.role = .shop) (reason : Reason) :
    s.trigger l reason = (s.onRenewal l (RenewalContext.begun .asking reason)).requestAsk l := by
  rw [State.trigger, if_pos ((RenewalState.isOpen_iff _).mpr isOpen),
    State.startRound_shop (s := s.onRenewal l _) entry shop, State.onRenewal_onRenewal]
  rfl

end Begun

/-! ## RENEW (R108) -/

theorem exec_renew {r : Request} {rest : List Request} (takes : s.Takes r rest) (kind : r.kind = 0x25)
    (body : r.body = [byteOf l.val]) (entry : s.entry l = some e) :
    exec .renew s = .next (if (s.renewal l).state.isOpen then State.renewLink { s with requests := rest } r l
      else State.reply { s with requests := rest } r .busy [byteOf l.val]) := by
  refine (takes_next (f := takeRenew) takes kind).trans (congrArg Host.Outcome.next ?_)
  exact onAttached_eq (s := { s with requests := rest }) body entry

/-- Settles O24: a RENEW is judged by the state it finds, and a trigger by the state and the link's role. -/
theorem renewAndTriggerTaken : Obligations.RenewAndTriggerTaken := by
  unfold Obligations.RenewAndTriggerTaken
  refine ⟨fun s r rest l e u takes kind body entry triggered => ?renew, fun s l e reason entry => ?trigger⟩
  case renew =>
    rw [exec_renew takes kind body entry]
    refine ⟨fun idle resting => ?_, fun isOpen => ?_⟩
    · rw [RenewalState.isOpen_eq_false idle resting]
      rfl
    · rw [if_pos ((RenewalState.isOpen_iff _).mpr isOpen), triggered]
      rfl
  case trigger =>
    exact ⟨fun idle resting => State.trigger_busy (RenewalState.isOpen_eq_false idle resting) reason,
      fun isOpen hub => State.trigger_hub isOpen entry hub reason,
      fun isOpen shop => State.trigger_shop isOpen entry shop reason⟩

/-! ## The events that make a control request, as commands -/

theorem exec_command (c : ControlClaim) (operating : s.operating = true) :
    exec c.command s = .next (s.takeControlClaim c).serveFreed := by
  have acts : exec c.command s = act (fun u => (u.takeControlClaim c).serveFreed) s := by cases c <;> rfl
  rw [acts, act_next operating]

/-! ## An occurrence beside a round

The fault monitor does not read the renewal contexts, so that an occurrence is the same before a change of them and
after it. -/

section Occurrence

variable (s : State) (l : Link) (rounds : Table RenewalContext)

theorem State.becomePending_renewals :
    State.becomePending { s with renewals := rounds } l = { s.becomePending l with renewals := rounds } := by
  unfold State.becomePending
  change (if (s.faultRecord l).noticeSent then _ else if s.unsolicitedFree && s.owed.isEmpty then _ else _) = _
  split
  · rfl
  · split <;> rfl

theorem State.judgePending_renewals (before : Bool) :
    State.judgePending { s with renewals := rounds } l before =
      { s.judgePending l before with renewals := rounds } := by
  have pending : State.isPending { s with renewals := rounds } l = s.isPending l := rfl
  unfold State.judgePending
  rw [pending]
  split
  · exact s.becomePending_renewals l rounds
  all_goals rfl

theorem State.offerLog_renewals (x : LogEntry) :
    State.offerLog { s with renewals := rounds } x = { s.offerLog x with renewals := rounds } := by
  unfold State.offerLog
  split <;> rfl

theorem State.occurrence_renewals (kind : FaultKind) (epoch sequence : Option Nat) :
    State.occurrence { s with renewals := rounds } l kind epoch sequence =
      { s.occurrence l kind epoch sequence with renewals := rounds } := by
  unfold State.occurrence
  change (if (s.faultRecord l).flags.has kind then _ else _) = _
  split
  · rfl
  · refine Eq.trans ?_ (State.judgePending_renewals _ l rounds _)
    exact congrArg (State.judgePending · l (s.isPending l)) (State.offerLog_renewals
      ((s.onFaults l fun r => r.countKind kind).onFaults l fun r =>
        r.flag { kind := kind, epoch := epoch, sequence := sequence, tick := s.tickCount }) rounds
      { tick := s.tickCount, link := l, kind := kind, epoch := epoch, sequence := sequence })

end Occurrence

/-! ## The renewal timer (R107) -/

/-- A renewal expiry reports, marks the context as due and reloads its timer, and is a DUE trigger (R107). -/
theorem State.expireRenewal_eq {k : KeySlot} (entry : s.entry l = some e)
    (expiring : (s.renewal l).renewalTimer = .expiring) (current : (s.keySet l).current = some k) :
    s.expireRenewal l = State.trigger
      { s.occurrence l (if (s.renewal l).dueMark then .overdue else .due) (some k.epoch) none with
        renewals := s.renewals.put l { s.renewal l with
          dueMark := true, renewalTimer := .running e.policy.renewTicks } } l .due := by
  simp only [State.expireRenewal, entry, expiring, if_true, current, Option.map_some]
  congr 1
  have marked := s.occurrence_renewals l (s.renewals.put l { s.renewal l with dueMark := true })
    (if (s.renewal l).dueMark then .overdue else .due) (some k.epoch) none
  refine (congrArg (State.onRenewal · l fun c => { c with renewalTimer := .running e.policy.renewTicks }) marked).trans ?_
  simp only [State.onRenewal, State.setRenewal, State.renewal, Table.look_put_same, Table.put_put]

/-! ## The silence timer (R130, R131) -/

theorem State.expireSilence_eq (entry : s.entry l = some e) (expiring : e.silenceTimer = .expiring) :
    s.expireSilence l =
      if e.entersHunt && e.policy.rekeyOnLoss then
        ((s.setEntry l (some e.silent)).occurrence l .silent none none).trigger l .loss
      else (s.setEntry l (some e.silent)).occurrence l .silent none none := by
  simp only [State.expireSilence, entry, expiring, if_true]

theorem LinkEntry.silent_hunt (hunt : e.state = .hunt) :
    e.silent = { e with silenceTimer := .running e.policy.silenceTicks } ∧ e.entersHunt = false := by
  simp [LinkEntry.silent, LinkEntry.entersHunt, hunt]

theorem LinkEntry.silent_heard (heard : e.state = .up ∨ e.state = .failing) :
    e.silent = { e with
      state := .hunt, goodCount := 0, badCount := 0, silenceTimer := .running e.policy.silenceTicks } ∧
    e.entersHunt = true := by
  rcases heard with state | state <;> simp [LinkEntry.silent, LinkEntry.entersHunt, state]

/-- Settles O48: what each expiry reports and reloads, and the trigger it brings. -/
theorem renewalAndSilenceExpire : Obligations.RenewalAndSilenceExpire := by
  unfold Obligations.RenewalAndSilenceExpire
  refine ⟨fun s l e k u operating entry expiring current reported => ?renewal, ?silence⟩
  case renewal =>
    have command := exec_command (.renewalTimer l) operating
    rw [ControlClaim.command] at command
    rw [command, State.takeControlClaim, State.expireRenewal_eq entry expiring current, reported]
  case silence =>
    intro s l e operating entry expiring heard lost
    have command := exec_command (.silence l) operating
    rw [ControlClaim.command, State.takeControlClaim, State.expireSilence_eq entry expiring] at command
    rw [command]
    refine ⟨fun hunt => ?_, fun up => ?_⟩
    · obtain ⟨silent, stays⟩ := LinkEntry.silent_hunt hunt
      rw [stays, silent]
      rfl
    · obtain ⟨silent, enters⟩ := LinkEntry.silent_heard up
      rw [enters, Bool.true_and, silent]
      rfl

/-! ## The requests of a tick (R93, R95, R97, R98, R104) -/

theorem State.claimsIn_of {state : RenewalState} (due : (s.renewal l).claimDue = true)
    (here : (s.renewal l).state = state) : s.claimsIn l state = true := by
  simp [State.claimsIn, due, here]

theorem State.retryDue_of (due : (s.renewal l).claimDue = true) (owed : (s.renewal l).retryOwed = true)
    (round : (s.renewal l).state = .offered ∨ (s.renewal l).state = .asked) : s.retryDue l = true := by
  rcases round with state | state <;> simp [State.retryDue, State.claimsIn, due, owed, state]

/-- Settles O49: each request is taken in its state, and a confirming BEAT by the engine's answer. -/
theorem tickRequestsMade : Obligations.TickRequestsMade := by
  unfold Obligations.TickRequestsMade
  refine ⟨?round, ?confirm⟩
  case round =>
    intro s l operating due u
    have made : ∀ c, exec c.command s = .next (s.takeControlClaim c).serveFreed := fun c => exec_command c operating
    refine ⟨fun preparing => (made (.preparing l)).trans ?_, fun asking => (made (.asking l)).trans ?_,
      fun owed => ⟨fun offered => (made (.retry l)).trans ?_, fun asked => (made (.retry l)).trans ?_⟩⟩
    · rw [State.takeControlClaim, State.takePreparing, if_pos (State.claimsIn_of due preparing)]
      simp only [State.takeClaim, preparing]
      rfl
    · rw [State.takeControlClaim, State.takeAsking, if_pos (State.claimsIn_of due asking)]
      simp only [State.takeClaim, asking]
      rfl
    · rw [State.takeControlClaim, State.takeRetry, if_pos (State.retryDue_of due owed (.inl offered))]
      simp only [State.takeClaim, offered]
      rfl
    · rw [State.takeControlClaim, State.takeRetry, if_pos (State.retryDue_of due owed (.inr asked))]
      simp only [State.takeClaim, asked]
      rfl
  case confirm =>
    intro s l operating due owed u
    have confirms : s.confirmDue l = true := by simp [State.confirmDue, due, owed]
    have made : exec (.confirmBeatRequest l) s = .next (u.requestConfirm l).serveFreed := by
      refine (exec_command (.confirm l) operating).trans ?_
      rw [State.takeControlClaim, State.takeConfirm, if_pos confirms]
      rfl
    rw [made]
    refine ⟨fun full => ?_, fun answered => ?_⟩
    · rw [State.requestConfirm, full]
    · cases answer : u.controlAnswer l with
      | noRoom => exact absurd answer answered
      | accepted | noKey | spent => rw [State.requestConfirm, answer]

end Sys2Proof.Machine
end

section
/-! PROOFS. Free unsolicited slots while links are owed: the owed set alone (R145), and the control requests that contest
them (R99, R103, R146). -/

namespace Sys2Proof.Machine

open Sys2Proof

variable {s t u : State} {l : Link}

/-! ## A NOTICE of the owed set (R143, R145) -/

/-- The lowest owed link has left the owed set for a slot. -/
def State.noticed (s : State) (l : Link) (rest : List Link) : State := { s with owed := rest }.placeNotice l

theorem State.noticed_inUse (s : State) (l : Link) (rest : List Link) :
    (s.noticed l rest).unsolicitedInUse = s.unsolicitedInUse + 1 := by
  have unsolicited : (s.noticed l rest).output.countP OutFrame.isUnsolicited =
      s.output.countP OutFrame.isUnsolicited + 1 := List.countP_append
  have jobs : (s.noticed l rest).controlJobs = s.controlJobs := rfl
  rw [State.unsolicitedInUse, unsolicited, jobs, State.unsolicitedInUse]
  omega

theorem State.noticed_faultRecord (s : State) (l : Link) (rest : List Link) (m : Link) :
    (s.noticed l rest).faultRecord m =
      { s.faultRecord m with noticeSent := if m = l then true else (s.faultRecord m).noticeSent } := by
  by_cases same : m = l
  · subst same
    rw [if_pos rfl]
    exact State.faultRecord_onFaults_same _ m _
  · rw [if_neg same]
    exact State.faultRecord_onFaults_ne _ l m _ same

theorem State.serveOwed_step {rest : List Link} (owed : s.owed = l :: rest) (free : s.unsolicitedInUse < 16) :
    s.serveOwed = (s.noticed l rest).serveOwed := by
  rw [State.serveOwed_cons owed, if_pos (s.unsolicitedFree_iff.mpr free)]
  rfl

/-- Nothing is served where no link is owed or no slot is free. -/
def State.Settled (s : State) : Prop := s.owed = [] ∨ 16 ≤ s.unsolicitedInUse

theorem State.not_settled (h : ¬ s.Settled) : (∃ l rest, s.owed = l :: rest) ∧ s.unsolicitedInUse < 16 := by
  obtain ⟨owed, free⟩ := not_or.mp h
  exact ⟨List.exists_cons_of_ne_nil owed, Nat.lt_of_not_le free⟩

theorem State.Settled.full (h : s.Settled) (owed : s.owed ≠ []) : s.unsolicitedFree = false := by
  rw [Bool.eq_false_iff, Ne, State.unsolicitedFree_iff]
  exact Nat.not_lt.mpr (h.resolve_left owed)

theorem State.Settled.serveOwed (h : s.Settled) : s.serveOwed = s := by
  cases owed : s.owed with
  | nil => exact State.serveOwed_nil owed
  | cons l rest => rw [State.serveOwed_cons owed, h.full (by simp [owed]), if_neg Bool.false_ne_true]

/-- The owed set is served until the slots or the links run out, so an induction on it has the settled part and a NOTICE
before the rest. -/
theorem State.serveOwed_induction {p : State → Prop} (settled : ∀ s, s.Settled → p s)
    (notice : ∀ (s : State) l rest, s.owed = l :: rest → s.unsolicitedInUse < 16 → p (s.noticed l rest) → p s)
    (s : State) : p s := by
  generalize owed : s.owed = links
  induction links generalizing s with
  | nil => exact settled s (.inl owed)
  | cons l rest ih =>
    by_cases h : s.Settled
    · exact settled s h
    · exact notice s l rest owed (State.not_settled h).2 (ih _ rfl)

/-- How many owed links find a slot. -/
def State.served (s : State) : Nat := min s.owed.length (16 - s.unsolicitedInUse)

theorem State.Settled.served (h : s.Settled) : s.served = 0 := by
  rcases h with owed | full
  · simp [State.served, owed]
  · unfold State.served
    omega

theorem State.served_step {rest : List Link} (owed : s.owed = l :: rest) (free : s.unsolicitedInUse < 16) :
    s.served = (s.noticed l rest).served + 1 := by
  have inUse := s.noticed_inUse l rest
  have left : (s.noticed l rest).owed = rest := rfl
  unfold State.served
  rw [inUse, left, owed, List.length_cons]
  omega

/-- Each link served has its mark set, and nothing else of its record has moved (R145). -/
theorem State.serveOwed_faultRecord (s : State) (m : Link) : s.serveOwed.faultRecord m =
    { s.faultRecord m with
      noticeSent := if m ∈ s.owed.take s.served then true else (s.faultRecord m).noticeSent } := by
  induction s using State.serveOwed_induction with
  | settled s h => simp [h.serveOwed, h.served]
  | notice s l rest owed free ih =>
    have left : (s.noticed l rest).owed = rest := rfl
    rw [State.serveOwed_step owed free, ih, s.noticed_faultRecord, State.served_step owed free, owed, left,
      List.take_succ_cons]
    by_cases same : m = l <;> simp [same]

/-- The NOTICE of a link as it stands (R144, R177). -/
def State.noticeNow (s : State) (l : Link) : OutFrame :=
  noticeOf l ((s.faultRecord l).flags &&& (s.faultRecord l).enabled) (s.faultRecord l).stamp

theorem State.noticed_noticeNow (s : State) (l : Link) (rest : List Link) :
    (s.noticed l rest).noticeNow = s.noticeNow := by
  funext m
  rw [State.noticeNow, State.noticed_faultRecord]
  rfl

/-- The links served leave the owed set and fill one slot each, lowest first (R145). -/
theorem State.serveOwed_eq (s : State) : s.serveOwed = { s with
    owed := s.owed.drop s.served, faults := s.serveOwed.faults
    output := s.output ++ (s.owed.take s.served).map s.noticeNow } := by
  induction s using State.serveOwed_induction with
  | settled s h => simp [h.serveOwed, h.served]
  | notice s l rest owed free ih =>
    have left : (s.noticed l rest).owed = rest := rfl
    have output : (s.noticed l rest).output = s.output ++ [s.noticeNow l] := rfl
    rw [State.serveOwed_step owed free, State.served_step owed free, owed, List.drop_succ_cons, List.take_succ_cons,
      List.map_cons]
    refine ih.trans ?_
    rw [left, output, State.noticed_noticeNow, List.append_assoc]
    rfl

theorem State.serveOwed_settled (s : State) : s.serveOwed.Settled := by
  induction s using State.serveOwed_induction with
  | settled s h => rwa [h.serveOwed]
  | notice s l rest owed free ih => rwa [State.serveOwed_step owed free]

theorem State.serveOwed_serves (own : Option Link) (s : State) : State.Serves own s s.serveOwed := by
  induction s using State.serveOwed_induction with
  | settled s h =>
    rw [h.serveOwed]
    exact .done s
  | notice s l rest owed free ih =>
    rw [State.serveOwed_step owed free]
    exact .notice l rest owed free ih

/-! ## The order of the claims (R146) -/

theorem serveContested_settled (h : s.Settled) (fuel : Nat) : serveContested fuel s = s := by
  cases fuel with
  | zero => exact h.serveOwed
  | succ fuel =>
    cases owed : s.owed with
    | nil => simp only [serveContested, owed]
    | cons l rest =>
      have full := h.full (by simp [owed])
      cases claims : s.dueClaims with
      | nil => simp only [serveContested, owed, claims, h.serveOwed]
      | cons c cs => simp only [serveContested, owed, claims, full, Bool.false_eq_true, if_false]

theorem serveContested_quiet {fuel : Nat} (quiet : s.dueClaims = []) : serveContested fuel s = s.serveOwed := by
  cases fuel with
  | zero => rfl
  | succ fuel =>
    cases owed : s.owed with
    | nil => simp only [serveContested, owed, State.serveOwed_nil owed]
    | cons l rest => simp only [serveContested, owed, quiet]

theorem serveContested_claim {fuel : Nat} (open_ : ¬ s.Settled) (due : s.dueClaims ≠ []) :
    serveContested (fuel + 1) s =
      serveContested fuel (s.chosen.serveOne s.dueClaims (s.choice (s.dueClaims.length + 1))) := by
  obtain ⟨⟨l, rest, owed⟩, free⟩ := State.not_settled open_
  obtain ⟨c, cs, claims⟩ := List.exists_cons_of_ne_nil due
  have room := s.unsolicitedFree_iff.mpr free
  simp only [serveContested, owed, claims, room, if_true]

/-- One claim taken: a due control request of a link that may claim, or the lowest owed link. -/
theorem State.serveOne_serves {own : Option Link} {claims : List ControlClaim} (open_ : ¬ s.Settled)
    (due : ∀ c ∈ claims, c ∈ s.dueClaims ∧ some c.link ≠ own) (n : Nat)
    (more : State.Serves own (s.chosen.serveOne claims n) t) : State.Serves own s t := by
  obtain ⟨⟨l, rest, owed⟩, free⟩ := State.not_settled open_
  have claimed : s.chosen.owed = l :: rest := owed
  refine .chosen (s := s) (t := t) ?_
  unfold State.serveOne at more
  split at more
  · next c here =>
    obtain ⟨isDue, other⟩ := due c (List.mem_of_getElem? here)
    exact .request c (by simp [owed]) free isDue other more
  · simp only [State.serveLowest, claimed] at more
    exact .notice l rest owed free more

theorem serveContested_serves (fuel : Nat) (s : State) :
    State.Serves none s (serveContested fuel s) ∧ (serveContested fuel s).Settled := by
  induction fuel generalizing s with
  | zero => exact ⟨s.serveOwed_serves none, s.serveOwed_settled⟩
  | succ fuel ih =>
    by_cases settled : s.Settled
    · rw [serveContested_settled settled]
      exact ⟨.done s, settled⟩
    · by_cases quiet : s.dueClaims = []
      · rw [serveContested_quiet quiet]
        exact ⟨s.serveOwed_serves none, s.serveOwed_settled⟩
      · rw [serveContested_claim settled quiet]
        obtain ⟨serves, ended⟩ := ih (s.chosen.serveOne s.dueClaims (s.choice (s.dueClaims.length + 1)))
        exact ⟨State.serveOne_serves settled (fun c due => ⟨due, nofun⟩) _ serves, ended⟩

/-- At a single free slot the claim taken is the last: the lowest owed link fills it, or a due control request comes first
and the rest follows it. -/
theorem State.serveFreed_one {rest : List Link} (owed : s.owed = l :: rest) (single : s.unsolicitedInUse = 15)
    (due : s.dueClaims ≠ []) :
    (s.choice (s.dueClaims.length + 1) = s.dueClaims.length ∧ s.serveFreed = s.chosen.noticed l rest) ∨
    ∃ c, s.dueClaims[s.choice (s.dueClaims.length + 1)]? = some c ∧
      State.Serves none (s.chosen.takeControlClaim c) s.serveFreed := by
  have open_ : ¬ s.Settled := not_or.mpr ⟨by simp [owed], by omega⟩
  have within : s.choice (s.dueClaims.length + 1) < s.dueClaims.length + 1 := Nat.mod_lt _ (Nat.succ_pos _)
  have claim : s.serveFreed = _ := serveContested_claim (fuel := 703) open_ due
  rw [claim, State.serveOne]
  cases here : s.dueClaims[s.choice (s.dueClaims.length + 1)]? with
  | some c => exact .inr ⟨c, rfl, (serveContested_serves _ _).1⟩
  | none =>
    have claimed : s.chosen.owed = l :: rest := owed
    have full : (s.chosen.noticed l rest).Settled :=
      .inr (by rw [State.noticed_inUse]; exact Nat.le_of_eq (congrArg (· + 1) single.symm))
    refine .inl ⟨?_, ?_⟩
    · have beyond := List.getElem?_eq_none_iff.mp here
      omega
    · simp only [State.serveLowest, claimed]
      exact serveContested_settled full 703

/-! ## A slot released inside a command (R145, R146) -/

theorem State.serveReleased_settled (h : s.Settled) : s.serveReleased = s := by
  cases owed : s.owed with
  | nil => simp [State.serveReleased, owed]
  | cons l rest => simp [State.serveReleased, h.full (by simp [owed])]

theorem State.serveReleased_open (open_ : ¬ s.Settled) : s.serveReleased =
    if s.dueClaims.isEmpty then s.serveOwed else if s.choice 2 = 0 then s.chosen.serveOwed else s.chosen := by
  obtain ⟨⟨l, rest, owed⟩, free⟩ := State.not_settled open_
  simp [State.serveReleased, owed, s.unsolicitedFree_iff.mpr free]

theorem State.serveReleased_quiet (quiet : s.dueClaims = []) : s.serveReleased = s.serveOwed := by
  by_cases settled : s.Settled
  · rw [State.serveReleased_settled settled, settled.serveOwed]
  · rw [State.serveReleased_open settled, quiet]
    rfl

/-! ## A contest (R99, R103, R146) -/

/-- What a contest asks before its link's request is open to it. -/
theorem State.contest_test : (!s.owed.isEmpty && s.unsolicitedFree) = true ↔ ¬ s.Settled := by
  simp [State.Settled, State.unsolicitedFree_iff]

theorem contestSlots_serves (l : Link) (request : State → State) (fuel : Nat) (s : State) :
    ∃ u, State.Serves (some l) s u ∧ contestSlots l request fuel s = request u := by
  induction fuel generalizing s with
  | zero => exact ⟨s, .done s, rfl⟩
  | succ fuel ih =>
    unfold contestSlots
    dsimp only
    split
    · next test =>
      have open_ := State.contest_test.mp test
      split
      · exact ⟨s.chosen, .chosen (.done _), rfl⟩
      · obtain ⟨u, serves, same⟩ := ih (s.chosen.serveOne (s.otherClaims l) (s.choice ((s.otherClaims l).length + 2)))
        refine ⟨u, State.serveOne_serves open_ (fun c member => ?_) _ serves, same⟩
        obtain ⟨due, other⟩ := List.mem_filter.mp member
        exact ⟨due, fun same => of_decide_eq_true other (Option.some.inj same)⟩
    · exact ⟨s, .done s, rfl⟩

theorem State.contest_settled (h : s.Settled) (l : Link) (request : State → State) :
    s.contest l request = request s := by
  rw [State.contest, if_neg (State.contest_test.not.mpr (not_not.mpr h))]

theorem State.contest_serves (s : State) (l : Link) (request : State → State) : ∃ u, State.Serves (some l) s u ∧
    (s.contest l request = request u ∨ s.contest l request = (request u).serveReleased) := by
  by_cases settled : s.Settled
  · exact ⟨s, .done s, .inl (State.contest_settled settled l request)⟩
  · obtain ⟨u, serves, same⟩ := contestSlots_serves l request claimBound s
    exact ⟨u, serves, .inr (by rw [State.contest, if_pos (State.contest_test.mpr settled), same])⟩

/-! ## The control requests that are due (R146) -/

/-- Which events of a link are due, event by event. -/
theorem State.mem_dueClaims_iff (s : State) (l : Link) :
    (.beat l ∈ s.dueClaims ↔ ∃ e, s.entry l = some e ∧ e.beatTimer = .expiring) ∧
    (.preparing l ∈ s.dueClaims ↔ (s.renewal l).state = .preparing ∧ (s.renewal l).claimDue = true) ∧
    (.asking l ∈ s.dueClaims ↔ (s.renewal l).state = .asking ∧ (s.renewal l).claimDue = true) ∧
    (.retry l ∈ s.dueClaims ↔ ((s.renewal l).state = .offered ∨ (s.renewal l).state = .asked) ∧
      (s.renewal l).retryOwed = true ∧ (s.renewal l).claimDue = true) ∧
    (.confirm l ∈ s.dueClaims ↔ (s.renewal l).confirmOwed = true ∧ (s.renewal l).confirmDue = true) ∧
    (.offerTimer l ∈ s.dueClaims ↔ (s.renewal l).state = .offered ∧ (s.renewal l).stepTimer = .expiring ∧
      ∃ e, s.entry l = some e ∧ (s.renewal l).triesUsed < e.policy.offerTries) ∧
    (.askTimer l ∈ s.dueClaims ↔ (s.renewal l).state = .asked ∧ (s.renewal l).stepTimer = .expiring ∧
      ∃ e, s.entry l = some e ∧ (s.renewal l).triesUsed < e.policy.offerTries) := by
  simp only [State.mem_dueClaims, State.isDue, State.claimsIn, State.retryDue, State.confirmDue, State.stepExpired,
    State.triesRemain, Option.any_eq_true, Bool.and_eq_true, Bool.or_eq_true, decide_eq_true_eq]
  refine ⟨trivial, and_comm, and_comm, ?_, and_comm, and_assoc, and_assoc⟩
  tauto

/-- Settles O41: the owed set alone by induction on it, the contests by induction on the claims. -/
theorem freedSlotsServed : Obligations.FreedSlotsServed := by
  unfold Obligations.FreedSlotsServed
  refine ⟨fun s => ⟨s.serveOwed_eq, s.serveOwed_faultRecord⟩, fun s settled => ?settled, fun s quiet => ?quiet,
    State.mem_dueClaims_iff, fun s c operating => exec_command c operating, fun s => serveContested_serves claimBound s,
    State.contest_serves, fun s owed free due => ?released, fun s l rest owed single due => ?one⟩
  case settled =>
    exact ⟨serveContested_settled settled claimBound, State.serveReleased_settled settled,
      State.contest_settled settled⟩
  case quiet =>
    exact ⟨State.serveFreed_quiet quiet.dueClaims, State.serveReleased_quiet quiet.dueClaims⟩
  case released =>
    have open_ : ¬ s.Settled := not_or.mpr ⟨owed, Nat.not_le.mpr free⟩
    have claimed : ¬ s.dueClaims.isEmpty = true := by simpa using due
    rw [State.serveReleased_open open_, if_neg claimed]
    split
    · exact .inl rfl
    · exact .inr rfl
  case one => exact State.serveFreed_one owed single due

end Sys2Proof.Machine
end

section
/-! PROOFS. The link supervisor: the policy list and the ranges of its fields (R115, R116, R174), POLICY (R120, R121)
and the verdicts (R124 to R127, R129, R131). -/

namespace Sys2Proof.Machine

open Sys2Proof

variable {s : State} {l : Link} {e : LinkEntry}

/-! ## A policy list in bytes (R174) -/

/-- A policy item as it is written: its field number, then its value in four bytes. -/
def policyItemBytes (item : PolicyItem) : List Byte := byteOf item.1 :: beBytes 4 item.2

theorem policyItems_bytes_append {item : PolicyItem} (number : item.1 < 256) (value : item.2 < 4294967296)
    (rest : List Byte) : policyItems (policyItemBytes item ++ rest) = (policyItems rest).map (item :: ·) := by
  have cut : policyItems (policyItemBytes item ++ rest) =
      (policyItems rest).map (((byteOf item.1).toNat, beNat (beBytes 4 item.2)) :: ·) := rfl
  have numberByte : (byteOf item.1).toNat = item.1 := by simp [byteOf, number]
  rw [cut, numberByte, beNat_beBytes_of_lt (w := 4) value]

/-- Items are cut again as they were written. -/
theorem policyItems_bytes {items : List PolicyItem} (fits : ∀ x ∈ items, x.1 < 256 ∧ x.2 < 4294967296) :
    policyItems (items.flatMap policyItemBytes) = some items := by
  induction items with
  | nil => rfl
  | cons item rest ih =>
    obtain ⟨⟨number, value⟩, others⟩ := List.forall_mem_cons.mp fits
    rw [List.flatMap_cons, policyItems_bytes_append number value, ih others, Option.map_some]

theorem length_of_policyItems {bytes : List Byte} {items : List PolicyItem} (cut : policyItems bytes = some items) :
    bytes.length = 5 * items.length := by
  induction bytes using policyItems.induct generalizing items with
  | case1 =>
    cases cut
    rfl
  | case2 n a b c d rest ih =>
    obtain ⟨others, tail, rfl⟩ := Option.map_eq_some_iff.mp cut
    simp only [List.length_cons, ih tail]
    omega
  | case3 bytes empty short =>
    rw [policyItems] at cut
    · cases cut
    · exact empty
    · exact short

theorem policyItemValid_iff {item : PolicyItem} :
    policyItemValid item = true ↔ (1 ≤ item.1 ∧ item.1 ≤ 13) ∧ (12 ≤ item.1 → item.2 ≤ 1) := by
  simp only [policyItemValid, Bool.and_eq_true, Bool.or_eq_true, decide_eq_true_eq]
  omega

section Judged

variable {bytes : List Byte} {items : List PolicyItem} (cut : policyItems bytes = some items)

include cut

theorem policyListOf_formed (valid : ∀ x ∈ items, policyItemValid x = true) (once : (items.map Prod.fst).Nodup) :
    policyListOf bytes = some items := by
  simp only [policyListOf, cut, List.all_eq_true.mpr valid, once, decide_true, Bool.and_self, if_true]

theorem policyListOf_malformed
    (bad : ¬ ((∀ x ∈ items, policyItemValid x = true) ∧ (items.map Prod.fst).Nodup)) : policyListOf bytes = none := by
  rw [← List.all_eq_true, ← decide_eq_true_iff (p := List.Nodup _), ← Bool.and_eq_true] at bad
  simp only [policyListOf, cut, if_neg bad]

end Judged

theorem policyListOf_of_ragged {bytes : List Byte} (ragged : bytes.length % 5 ≠ 0) : policyListOf bytes = none := by
  cases cut : policyItems bytes with
  | none => simp only [policyListOf, cut]
  | some items => exact absurd (by rw [length_of_policyItems cut]; omega) ragged

/-! ## The ranges of the fields (R115, R116) -/

/-- The range column of the policy table, with the two settings of the enumerated fields as 0 and 1 (R115, R174). -/
def policyRanges : List (Nat × Nat) :=
  [(1, 15), (1, 15), (10, 65535), (5, 65535), (600, 16777215), (4096, 4294967295), (1, 7), (1, 65535), (10, 65535),
    (1, 7), (50, 65535), (0, 1), (0, 1)]

/-- The table's ranges are the model's. -/
theorem policyRanges_iff {n lo hi : Nat} (positive : 1 ≤ n) :
    policyRanges[n - 1]? = some (lo, hi) ↔ n ≤ 13 ∧ policyBounds n = (lo, hi) := by
  have ranges : policyRanges = (List.range' 1 13).map policyBounds := rfl
  rw [ranges, List.getElem?_map]
  by_cases named : n ≤ 13
  · have number : (List.range' 1 13)[n - 1]? = some n := by
      rw [List.getElem?_range' (by omega)]
      congr 1
      omega
    simp [number, named]
  · have past : (List.range' 1 13)[n - 1]? = none := by simp; omega
    simp [past, named]

theorem policyBounds_le (n : Nat) : (policyBounds n).1 ≤ (policyBounds n).2 := by
  unfold policyBounds
  split <;> decide

/-- A value outside its range takes the nearest bound, but a beat_ticks of 0 stays (R116). -/
theorem clampField_eq {n v lo hi : Nat} (bounds : policyBounds n = (lo, hi)) :
    clampField (n, v) = if n = 4 ∧ v = 0 then 0 else if v < lo then lo else if hi < v then hi else v := by
  have order := policyBounds_le n
  simp only [clampField, bounds] at order ⊢
  split_ifs <;> omega

theorem clampField_ne_iff {n v lo hi : Nat} (bounds : policyBounds n = (lo, hi)) :
    clampField (n, v) ≠ v ↔ (v < lo ∨ hi < v) ∧ ¬ (n = 4 ∧ v = 0) := by
  rw [clampField_eq bounds]
  split_ifs <;> omega

/-- Writing a numeric field puts its clamped value in its place. -/
theorem Policy.write_values_numeric (p : Policy) {n : Nat} (v : Nat) (positive : 1 ≤ n) (numeric : n ≤ 11) :
    (p.write (n, v)).values = p.values.set (n - 1) (clampField (n, v)) := by
  interval_cases n <;> rfl

/-- Writing an enumerated field puts its setting in its place. -/
theorem Policy.write_values_enumerated (p : Policy) {n v : Nat} (enumerated : n = 12 ∨ n = 13) (setting : v ≤ 1) :
    (p.write (n, v)).values = p.values.set (n - 1) (clampField (n, v)) := by
  rcases enumerated with rfl | rfl <;> interval_cases v <;> rfl

theorem clampedFields_rising (items : List PolicyItem) : (clampedFields items).Pairwise (· < ·) :=
  List.Pairwise.filter _ (List.pairwise_lt_range' ..)

theorem mem_clampedFields {items : List PolicyItem} {n : Nat} :
    n ∈ clampedFields items ↔ 1 ≤ n ∧ n ≤ 11 ∧ ∃ v, (n, v) ∈ items ∧ clampField (n, v) ≠ v := by
  have number : n ∈ List.range' 1 11 ↔ 1 ≤ n ∧ n ≤ 11 := by
    rw [List.mem_range'_1]
    omega
  simp only [clampedFields, List.mem_filter, number, List.any_eq_true, Bool.and_eq_true, beq_iff_eq, bne_iff_ne,
    Prod.exists, and_assoc]
  refine and_congr_right fun _ => and_congr_right fun _ => ⟨?_, ?_⟩
  · rintro ⟨m, v, member, rfl, moved⟩
    exact ⟨v, member, moved⟩
  · rintro ⟨v, member, moved⟩
    exact ⟨n, v, member, rfl, moved⟩

/-- Settles O22: a list is cut as it was written and then judged item by item; each field is clamped by its row of the
table. -/
theorem policyListsReadAndClamped : Obligations.PolicyListsReadAndClamped := by
  unfold Obligations.PolicyListsReadAndClamped
  refine ⟨fun items fits => ?lists, fun bytes => policyListOf_of_ragged, rfl,
    fun p n v lo hi positive range setting => ?write, fun p items item => rfl,
    fun items => ⟨clampedFields_rising items, fun n => ?clamped⟩⟩
  case lists =>
    have cut := policyItems_bytes fits
    simp only [← policyItemValid_iff]
    exact ⟨fun ⟨valid, once⟩ => policyListOf_formed cut valid once, policyListOf_malformed cut⟩
  case write =>
    obtain ⟨named, bounds⟩ := (policyRanges_iff positive).mp range
    rw [← clampField_eq bounds]
    by_cases numeric : n ≤ 11
    · exact p.write_values_numeric v positive numeric
    · exact p.write_values_enumerated (by omega) (setting (by omega))
  case clamped =>
    rw [mem_clampedFields]
    refine and_congr_right fun positive => and_congr_right fun numeric => exists_congr fun v => ⟨?_, ?_⟩
    · rintro ⟨member, moved⟩
      obtain ⟨outside, on⟩ := (clampField_ne_iff rfl).mp moved
      exact ⟨_, _, member, (policyRanges_iff positive).mpr ⟨by omega, rfl⟩, outside, on⟩
    · rintro ⟨lo, hi, member, range, moved⟩
      exact ⟨member, (clampField_ne_iff ((policyRanges_iff positive).mp range).2).mpr moved⟩

/-! ## POLICY (R120, R121) -/

theorem beatAfterPolicy_eq (timer : Timer) (before after : Nat) (outbound : Option KeySlot) :
    beatAfterPolicy timer before after outbound.isSome =
      if after = 0 then .stopped
      else if before ≠ 0 then timer
      else if outbound = none then .stopped
      else .running after := by
  simp only [beatAfterPolicy, ne_eq, ite_not, ← Option.not_isSome_iff_eq_none]

theorem takePolicy_attached {r : Request} {items : List PolicyItem}
    (parsed : policyBodyOf r.body = some (byteOf l.val, items)) (entry : s.entry l = some e) :
    takePolicy r s = (s.setEntry l (some (e.withPolicy items
      ((s.keySet l).slot (outboundRoleOf e (s.renewal l))).isSome))).reply r (clampStatus items)
        (byteOf l.val :: clampFields items) := by
  simp only [takePolicy, parsed, State.attachedLink_byteOf entry, State.outboundSlot_eq entry]

/-- Settles O21: the entry is written and the clamped fields are answered. -/
theorem policyTaken : Obligations.PolicyTaken := by
  unfold Obligations.PolicyTaken
  intro s r rest l e list items takes kind body parsed entry policy outbound
  have parsedBody : policyBodyOf r.body = some (byteOf l.val, items) := by
    rw [body, policyBodyOf, parsed, Option.map_some]
  refine (takes_next (f := takePolicy) takes kind).trans ?_
  rw [takePolicy_attached (s := { s with requests := rest }) parsedBody entry, LinkEntry.withPolicy, beatAfterPolicy_eq,
    State.reply_eq, replyFrame, clampStatus_code]
  rfl

/-! ## The verdicts (R124, R125, R126, R127, R129, R131) -/

theorem LinkEntry.good_keyless (state : e.state = .keyless) : e.good = e := by
  simp only [LinkEntry.good, state]

theorem LinkEntry.good_hunt (state : e.state = .hunt) : e.good =
    if e.policy.lockIn ≤ e.goodCount + 1 then
      { e with state := .up, goodCount := 0, silenceTimer := .running e.policy.silenceTicks }
    else { e with goodCount := e.goodCount + 1, silenceTimer := .running e.policy.silenceTicks } := by
  simp only [LinkEntry.good, state]

theorem LinkEntry.good_up (state : e.state = .up) :
    e.good = { e with silenceTimer := .running e.policy.silenceTicks } := by
  simp only [LinkEntry.good, state]

theorem LinkEntry.good_failing (state : e.state = .failing) :
    e.good = { e with state := .up, badCount := 0, silenceTimer := .running e.policy.silenceTicks } := by
  simp only [LinkEntry.good, state]

theorem LinkEntry.bad_keyless (state : e.state = .keyless) : e.bad = e := by
  simp only [LinkEntry.bad, state]

theorem LinkEntry.bad_hunt (state : e.state = .hunt) : e.bad = { e with goodCount := 0 } := by
  simp only [LinkEntry.bad, state]

theorem LinkEntry.bad_up (state : e.state = .up) : e.bad = { e with state := .failing, badCount := 1 } := by
  simp only [LinkEntry.bad, state]

theorem LinkEntry.bad_failing (state : e.state = .failing) : e.bad = { e with badCount := e.badCount + 1 } := by
  simp only [LinkEntry.bad, state]

/-- Lock is lost at the lock_out-th bad verdict in a row, in UP or FAILING alone. -/
theorem LinkEntry.losesLock_iff : e.losesLock = true ↔
    e.state = .up ∧ e.policy.lockOut ≤ 1 ∨ e.state = .failing ∧ e.policy.lockOut ≤ e.badCount + 1 := by
  unfold LinkEntry.losesLock
  cases e.state <;> simp

section Verdict

variable (entry : s.entry l = some e)

include entry

theorem State.setEntry_unmoved : s.setEntry l (some e) = s := by
  rw [State.setEntry, Table.put_look entry]

theorem State.goodVerdict_eq : s.goodVerdict l = s.setEntry l (some e.good) := by
  rw [State.goodVerdict, State.onEntry, entry, Option.map_some]

theorem State.badVerdict_losing (loses : e.losesLock = true) : s.badVerdict l = s.loseLock l e := by
  simp only [State.badVerdict, entry, loses, if_true]

theorem State.badVerdict_keeping (keeps : ¬ e.losesLock = true) : s.badVerdict l = s.setEntry l (some e.bad) := by
  simp only [State.badVerdict, entry, if_neg keeps]

end Verdict

/-- Settles O23: the verdicts by the state they find, and by whether a bad one loses lock. -/
theorem verdictsMove : Obligations.VerdictsMove := by
  unfold Obligations.VerdictsMove
  intro s l e entry hold heard
  have good := State.goodVerdict_eq entry
  have bad := fun keeps => State.badVerdict_keeping entry (mt LinkEntry.losesLock_iff.mp keeps)
  refine ⟨fun state => ?keyless, fun state => ?hunt, fun state => ?up, fun state => ?failing, fun reached => ?lost⟩
  case keyless =>
    have keeps := bad (by simp [state])
    rw [good, keeps, LinkEntry.good_keyless state, LinkEntry.bad_keyless state, State.setEntry_unmoved entry]
    exact ⟨rfl, rfl⟩
  case hunt =>
    have keeps := bad (by simp [state])
    rw [good, keeps, LinkEntry.good_hunt state, LinkEntry.bad_hunt state]
    exact ⟨by split <;> rfl, rfl⟩
  case up =>
    rw [good, LinkEntry.good_up state]
    refine ⟨rfl, fun below => ?_⟩
    rw [bad (by simp [state]; omega), LinkEntry.bad_up state]
    rfl
  case failing =>
    rw [good, LinkEntry.good_failing state]
    refine ⟨rfl, fun below => ?_⟩
    rw [bad (by simp [state]; omega), LinkEntry.bad_failing state]
    rfl
  case lost => exact State.badVerdict_losing entry (LinkEntry.losesLock_iff.mpr reached)

end Sys2Proof.Machine
end

section
/-! PROOFS. What the fault monitor tells of: every record is sound, and a link is pending exactly when its NOTICE has
been placed or is owed, and never both (R137, R143, R145, R147). Every shared operation keeps this (`State.Told`), in
the middle of a command too, where slots that were released may still be free while links are owed. -/

namespace Sys2Proof.Machine

open Sys2Proof

variable {s t : State} {l m : Link} {pending : Link → Bool}

/-! ## Links that are told of -/

/-- The parts of the state from which notices follow. -/
def State.monitor (s : State) := (s.faults, s.noticeMode, s.owed)

/-- Each of these links, and no other, has its notice-sent mark set or is owed its NOTICE, and not both; every record is
sound. -/
structure State.Marks (s : State) (pending : Link → Bool) : Prop where
  sound : ∀ m, (s.faultRecord m).Sound
  marked : ∀ m, pending m = true ↔ (s.faultRecord m).noticeSent = true ∨ m ∈ s.owed
  once : ∀ m ∈ s.owed, (s.faultRecord m).noticeSent = false
  rising : s.owed.Pairwise (· < ·)

/-- The pending links are those told of. -/
def State.Told (s : State) : Prop := s.Marks s.isPending

theorem State.noticesSound_iff : s.NoticesSound ↔ s.Told ∧ s.Settled := by
  have settled : (s.owed ≠ [] → s.unsolicitedFree = false) ↔ s.Settled := by
    rw [State.Settled, or_iff_not_imp_left, ← Nat.not_lt, ← s.unsolicitedFree_iff, Bool.not_eq_true]
  constructor
  · rintro ⟨sound, marked, once, rising, full⟩
    exact ⟨⟨sound, marked, once, rising⟩, settled.mp full⟩
  · rintro ⟨⟨sound, marked, once, rising⟩, full⟩
    exact ⟨sound, marked, once, rising, settled.mpr full⟩

theorem State.isPending_congr (record : (t.faultRecord l).meets = (s.faultRecord l).meets)
    (mode : t.noticeMode = s.noticeMode) : t.isPending l = s.isPending l := by
  rw [State.isPending, record, mode, State.isPending]

/-- What is no part of the fault monitor has moved. -/
theorem State.faultRecord_same (same : t.monitor = s.monitor) (m : Link) : t.faultRecord m = s.faultRecord m :=
  congrArg (fun x : Table FaultRecord × NoticeMode × List Link => x.1.look m) same

theorem State.isPending_same (same : t.monitor = s.monitor) (m : Link) : t.isPending m = s.isPending m :=
  State.isPending_congr (congrArg _ (State.faultRecord_same same m)) (congrArg (fun x => x.2.1) same)

/-- What is no part of the fault monitor has moved, but for the notice mode perhaps. -/
theorem State.Marks.same (h : s.Marks pending) (faults : t.faults = s.faults) (owed : t.owed = s.owed) :
    t.Marks pending := by
  have record : ∀ m, t.faultRecord m = s.faultRecord m := fun m => by rw [State.faultRecord, faults, State.faultRecord]
  obtain ⟨sound, marked, once, rising⟩ := h
  refine ⟨fun m => ?_, fun m => ?_, fun m member => ?_, owed ▸ rising⟩
  · exact record m ▸ sound m
  · rw [record, owed]
    exact marked m
  · exact record m ▸ once m (owed ▸ member)

theorem State.Marks.congr {others : Link → Bool} (h : s.Marks pending) (same : ∀ m, others m = pending m) :
    s.Marks others :=
  (funext same : others = pending) ▸ h

theorem State.Told.same (h : s.Told) (same : t.monitor = s.monitor) : t.Told := by
  rw [State.Told, funext (State.isPending_same same)]
  exact State.Marks.same h (congrArg (fun x => x.1) same) (congrArg (fun x => x.2.2) same)

/-! ## Records that stay sound (R137) -/

theorem FaultCounter.count_le {c : FaultCounter} (h : c.value ≤ 65535) (k : FaultKind) : (c.count k).value ≤ 65535 := by
  unfold FaultCounter.count
  split
  · exact Nat.min_le_right _ _
  · exact h

theorem FaultRecord.Sound.countKind {r : FaultRecord} (h : r.Sound) (k : FaultKind) : (r.countKind k).Sound := by
  obtain ⟨capture, stamp, counterA, counterB⟩ := h
  exact ⟨capture, stamp, FaultCounter.count_le counterA k, FaultCounter.count_le counterB k⟩

theorem FaultKind.bit_getLsbD (k : FaultKind) : (1#13 <<< k.code).getLsbD k.code = true := by
  cases k <;> rfl

theorem FaultSet.add_ne_zero (f : FaultSet) (k : FaultKind) : f.add k ≠ 0#13 := by
  intro none
  have bit : (f.add k).getLsbD k.code = true := by
    rw [FaultSet.add, BitVec.getLsbD_or, k.bit_getLsbD, Bool.or_true]
  rw [none, BitVec.getLsbD_zero] at bit
  contradiction

theorem FaultRecord.Sound.flag {r : FaultRecord} (h : r.Sound) (c : Capture) : (r.flag c).Sound := by
  obtain ⟨-, -, counterA, counterB⟩ := h
  refine ⟨iff_of_true ?_ (r.flags.add_ne_zero c.kind), ?_, counterA, counterB⟩
  · rw [FaultRecord.flag]
    cases r.capture <;> rfl
  · exact Nat.le_of_lt_succ (Nat.mod_lt _ (by decide))

theorem FaultRecord.Sound.clear {r : FaultRecord} (h : r.Sound) (mask : FaultSet) : (r.clear mask).Sound := by
  obtain ⟨capture, stamp, counterA, counterB⟩ := h
  refine ⟨?_, stamp, counterA, counterB⟩
  rw [FaultRecord.clear]
  by_cases none : r.flags.without mask = 0#13
  · simp [none]
  · have flags : r.flags ≠ 0#13 := fun zero => none (by simp [zero, FaultSet.without])
    simpa [none] using capture.mpr flags

theorem FaultCounter.set_le {c : FaultCounter} (h : c.value ≤ 65535) (source : Option FaultKind) (zero : Bool) :
    (c.set source zero).value ≤ 65535 := by
  unfold FaultCounter.set
  split
  · exact Nat.zero_le _
  · split
    · exact Nat.zero_le _
    · exact h

theorem FaultRecord.Sound.counter {r : FaultRecord} (h : r.Sound) (second : Bool) :
    (r.counter second).value ≤ 65535 := by
  obtain ⟨-, -, counterA, counterB⟩ := h
  cases second
  · exact counterA
  · exact counterB

theorem FaultRecord.Sound.withCounter {r : FaultRecord} (h : r.Sound) (second : Bool) {c : FaultCounter}
    (value : c.value ≤ 65535) : (r.withCounter second c).Sound := by
  obtain ⟨capture, stamp, counterA, counterB⟩ := h
  cases second
  · exact ⟨capture, stamp, value, counterB⟩
  · exact ⟨capture, stamp, counterA, value⟩

/-! ## A pending state judged again (R143, R145, R147) -/

theorem joinOwed_rising {xs : List Link} (rising : xs.Pairwise (· < ·)) (l : Link) :
    (joinOwed l xs).Pairwise (· < ·) := by
  induction xs with
  | nil => exact List.pairwise_singleton _ l
  | cons x rest ih =>
    obtain ⟨least, others⟩ := List.pairwise_cons.mp rising
    unfold joinOwed
    split
    · next lower =>
      refine List.pairwise_cons.mpr ⟨fun m member => ?_, rising⟩
      rcases List.mem_cons.mp member with rfl | member
      · exact lower
      · exact lower.trans (least m member)
    · split
      · exact rising
      · next notLower other =>
        refine List.pairwise_cons.mpr ⟨fun m member => ?_, ih others⟩
        rcases mem_joinOwed.mp member with rfl | member
        · exact lt_of_le_of_ne (not_lt.mp notLower) (Ne.symm other)
        · exact least m member

/-- From `s` to `t` the mark of one link has been set or cleared, and no record has moved else. -/
def State.Remarked (s : State) (l : Link) (sent : Bool) (t : State) : Prop :=
  ∀ m, t.faultRecord m =
    { s.faultRecord m with noticeSent := if m = l then sent else (s.faultRecord m).noticeSent }

theorem State.noticed_remarked (s : State) (l : Link) (rest : List Link) : s.Remarked l true (s.noticed l rest) := by
  intro m
  rw [State.noticed_faultRecord]

theorem State.ceasePending_remarked (s : State) (l : Link) : s.Remarked l false (s.ceasePending l) := by
  intro m
  change (s.onFaults l fun r => { r with noticeSent := false }).faultRecord m = _
  by_cases same : m = l
  · subst same
    rw [State.faultRecord_onFaults_same, if_pos rfl]
  · rw [State.faultRecord_onFaults_ne s l m _ same, if_neg same]

theorem State.remarked_of_faults (same : t.faults = s.faults) (l : Link) :
    s.Remarked l (s.faultRecord l).noticeSent t := by
  intro m
  rw [State.faultRecord, same]
  split
  · next here => rw [here, State.faultRecord]
  · rfl

theorem State.Remarked.isPending {sent : Bool} (h : s.Remarked l sent t) (mode : t.noticeMode = s.noticeMode)
    (m : Link) :    t.isPending m = s.isPending m :=
  State.isPending_congr (by rw [h m]; rfl) mode

/-- One link's pending state judged again moves none (R143, R147). -/
theorem State.judgePending_isPending (s : State) (l m : Link) (before : Bool) :
    (s.judgePending l before).isPending m = s.isPending m := by
  unfold State.judgePending State.becomePending
  split
  · split
    · rfl
    · split
      · exact (s.noticed_remarked l s.owed).isPending rfl m
      · rfl
  · exact (s.ceasePending_remarked l).isPending rfl m
  · rfl
  · rfl

/-- A record changed but for its mark leaves its link marked as it was. -/
theorem State.Marks.onFaults (h : s.Marks pending) (l : Link) {f : FaultRecord → FaultRecord}
    (sound : ∀ r, r.Sound → (f r).Sound) (mark : ∀ r, (f r).noticeSent = r.noticeSent) :
    (s.onFaults l f).Marks pending := by
  have record : ∀ m, (s.onFaults l f).faultRecord m = s.faultRecord m ∨
      (s.onFaults l f).faultRecord m = f (s.faultRecord m) := fun m => by
    by_cases same : m = l
    · exact .inr (same ▸ State.faultRecord_onFaults_same s m f)
    · exact .inl (State.faultRecord_onFaults_ne s l m f same)
  have sent : ∀ m, ((s.onFaults l f).faultRecord m).noticeSent = (s.faultRecord m).noticeSent := fun m => by
    rcases record m with same | changed
    · rw [same]
    · rw [changed, mark]
  refine ⟨fun m => ?_, fun m => ?_, fun m owed => (sent m).trans (h.once m owed), h.rising⟩
  · rcases record m with same | changed
    · exact same ▸ h.sound m
    · exact changed ▸ sound _ (h.sound m)
  · rw [sent]
    exact h.marked m

/-- Where the mark of one link and its place in the owed set have moved, the others are marked as before. -/
theorem State.Marks.remarked (h : s.Marks pending) {sent : Bool} (record : s.Remarked l sent t)
    (others : ∀ m, m ≠ l → (m ∈ t.owed ↔ m ∈ s.owed)) (once : l ∈ t.owed → sent = false)
    (rising : t.owed.Pairwise (· < ·)) {now : Bool} (here : now = true ↔ sent = true ∨ l ∈ t.owed) :
    t.Marks (Function.update pending l now) := by
  have sentNow : ∀ m, (t.faultRecord m).noticeSent = if m = l then sent else (s.faultRecord m).noticeSent := fun m => by
    rw [record]
  refine ⟨fun m => ?_, fun m => ?_, fun m member => ?_, rising⟩
  · rw [record]
    exact h.sound m
  · rw [sentNow]
    by_cases same : m = l
    · rw [same, Function.update_self, if_pos rfl]
      exact here
    · rw [Function.update_of_ne same, if_neg same, h.marked]
      exact or_congr_right (others m same).symm
  · rw [sentNow]
    by_cases same : m = l
    · rw [if_pos same]
      exact once (same ▸ member)
    · rw [if_neg same]
      exact h.once m ((others m same).mp member)

/-- A link that is not pending and becomes so has its NOTICE placed or is owed one (R143, R145). -/
theorem State.Marks.becomePending (h : s.Marks pending) (before : pending l = false) :
    (s.becomePending l).Marks (Function.update pending l true) := by
  have unmarked : ¬ ((s.faultRecord l).noticeSent = true ∨ l ∈ s.owed) := (h.marked l).not.mp (by simp [before])
  obtain ⟨unsent, unowed⟩ := not_or.mp unmarked
  rw [State.becomePending, if_neg unsent]
  split
  · exact h.remarked (s.noticed_remarked l s.owed) (fun _ _ => .rfl) (fun owed => absurd owed unowed) h.rising
      (by simp)
  · have joined := State.remarked_of_faults (s := s) (t := { s with owed := joinOwed l s.owed }) rfl l
    exact h.remarked (Bool.eq_false_iff.mpr unsent ▸ joined)
      (fun m other => by rw [mem_joinOwed, or_iff_right other]) (fun _ => rfl) (joinOwed_rising h.rising l)
      (by simp [mem_joinOwed])

/-- A link that ceases to be pending loses its mark and its owed notice (R147). -/
theorem State.Marks.ceasePending (h : s.Marks pending) :
    (s.ceasePending l).Marks (Function.update pending l false) :=
  h.remarked (s.ceasePending_remarked l) (fun m other => by simp [State.ceasePending, other])
    (fun _ => rfl) (h.rising.filter _) (by simp [State.ceasePending])

/-- A pending state judged again leaves its link marked as it is pending now (R143, R147). -/
theorem State.Marks.judgePending (h : s.Marks pending) (l : Link) :
    (s.judgePending l (pending l)).Marks (Function.update pending l (s.isPending l)) := by
  have still : pending l = s.isPending l → s.Marks (Function.update pending l (s.isPending l)) := fun same => by
    rwa [← same, Function.update_eq_self]
  unfold State.judgePending
  split
  · next before after => exact after ▸ h.becomePending before
  · next before after => exact after ▸ h.ceasePending
  · next before after => exact still (before.trans after.symm)
  · next before after => exact still (before.trans after.symm)

/-- A change of one record, judged, leaves every pending link told of. -/
theorem State.Marks.told (h : s.Marks pending) (others : ∀ m, m ≠ l → s.isPending m = pending m) :
    (s.judgePending l (pending l)).Told := by
  have same : (s.judgePending l (pending l)).isPending = Function.update pending l (s.isPending l) := by
    funext m
    rw [State.judgePending_isPending]
    by_cases here : m = l
    · rw [here, Function.update_self]
    · rw [Function.update_of_ne here, others m here]
  rw [State.Told, same]
  exact h.judgePending l

/-- The records of the other links make them as pending as before. -/
theorem State.isPending_onFaults_ne (s : State) (f : FaultRecord → FaultRecord) (other : m ≠ l) :
    (s.onFaults l f).isPending m = s.isPending m :=
  State.isPending_congr (congrArg _ (State.faultRecord_onFaults_ne s l m f other)) rfl

/-- A record changed but for its mark, and its link judged again. -/
theorem State.Told.judged (h : s.Told) (l : Link) {f : FaultRecord → FaultRecord}
    (sound : ∀ r, r.Sound → (f r).Sound) (mark : ∀ r, (f r).noticeSent = r.noticeSent) :
    ((s.onFaults l f).judgePending l (s.isPending l)).Told :=
  (State.Marks.onFaults h l sound mark).told fun _ => s.isPending_onFaults_ne f

/-- A record changed but for its mark, its flags and its mask. -/
theorem State.Told.onFaults (h : s.Told) (l : Link) {f : FaultRecord → FaultRecord} (sound : ∀ r, r.Sound → (f r).Sound)
    (mark : ∀ r, (f r).noticeSent = r.noticeSent) (meets : ∀ r, (f r).meets = r.meets) : (s.onFaults l f).Told := by
  have pending : ∀ m, (s.onFaults l f).isPending m = s.isPending m := fun m => by
    by_cases same : m = l
    · rw [same]
      exact State.isPending_congr (by rw [State.faultRecord_onFaults_same, meets]) rfl
    · exact s.isPending_onFaults_ne f same
  rw [State.Told, funext pending]
  exact State.Marks.onFaults h l sound mark

theorem State.Told.countKind (h : s.Told) (l : Link) (k : FaultKind) : (s.onFaults l fun r => r.countKind k).Told :=
  h.onFaults l (fun _ sound => sound.countKind k) (fun _ => rfl) fun _ => rfl

theorem State.offerLog_monitor (s : State) (x : LogEntry) : (s.offerLog x).monitor = s.monitor := by
  unfold State.offerLog
  split <;> rfl

/-- An occurrence leaves every pending link told of (R140, R143). -/
theorem State.Told.occurrence (h : s.Told) (l : Link) (k : FaultKind) (epoch sequence : Option Nat) :
    (s.occurrence l k epoch sequence).Told := by
  unfold State.occurrence
  dsimp only
  split
  · exact h.countKind l k
  · have marks := (State.Marks.onFaults h l (f := fun r => r.countKind k) (fun _ sound => sound.countKind k)
      fun _ => rfl).onFaults l (f := fun r => r.flag ⟨k, epoch, sequence, s.tickCount⟩) (fun _ sound => sound.flag _)
      fun _ => rfl
    have logged := State.offerLog_monitor ((s.onFaults l fun r => r.countKind k).onFaults l fun r =>
      r.flag ⟨k, epoch, sequence, s.tickCount⟩) ⟨s.tickCount, l, k, epoch, sequence⟩
    refine (marks.same (congrArg (fun x => x.1) logged) (congrArg (fun x => x.2.2) logged)).told fun m other => ?_
    rw [State.isPending_same logged, State.isPending_onFaults_ne _ _ other,
      State.isPending_onFaults_ne _ _ other]

/-! ## The owed set served (R145) -/

/-- The lowest owed link takes a slot. -/
theorem State.Told.noticed (h : s.Told) {rest : List Link} (owed : s.owed = l :: rest) : (s.noticed l rest).Told := by
  obtain ⟨least, rising⟩ := List.pairwise_cons.mp (owed ▸ h.rising)
  have unowed : l ∉ rest := fun member => lt_irrefl l (least l member)
  have pending : s.isPending l = true := (h.marked l).mpr (.inr (by simp [owed]))
  have same : (s.noticed l rest).isPending = Function.update s.isPending l true := by
    rw [funext ((s.noticed_remarked l rest).isPending rfl), ← pending, Function.update_eq_self]
  rw [State.Told, same]
  exact State.Marks.remarked h (s.noticed_remarked l rest)
    (fun m other => by simp [State.noticed, State.placeNotice, owed, other]) (fun member => absurd member unowed) rising
    (by simp)

theorem State.Told.serveOwed (h : s.Told) : s.serveOwed.Told := by
  induction s using State.serveOwed_induction with
  | settled s settled => rwa [settled.serveOwed]
  | notice s l rest owed free ih =>
    rw [State.serveOwed_step owed free]
    exact ih (h.noticed owed)

theorem State.Told.serveLowest (h : s.Told) : s.serveLowest.Told := by
  unfold State.serveLowest
  split
  · exact h
  · next owed => exact h.noticed owed

theorem State.Told.serveReleased (h : s.Told) : s.serveReleased.Told := by
  have chosen : s.chosen.Told := h.same rfl
  unfold State.serveReleased
  split
  · exact h
  · split
    · exact h.serveOwed
    · split
      · exact chosen.serveOwed
      · exact chosen

end Sys2Proof.Machine
end

section
/-! PROOFS. Every shared operation leaves the pending links told of, whether or not slots it released are free (R143,
R145, R146, R147). -/

namespace Sys2Proof.Machine

open Sys2Proof

variable {s t : State}

/-! ## Updates of no part of the fault monitor -/

theorem State.Told.chosen (h : s.Told) : s.chosen.Told := h.same rfl

theorem State.Told.setKeys (h : s.Told) (l : Link) (k : KeySet) : (s.setKeys l k).Told := h.same rfl

theorem State.Told.onRenewal (h : s.Told) (l : Link) (f : RenewalContext → RenewalContext) : (s.onRenewal l f).Told :=
  h.same rfl

theorem State.Told.setEntry (h : s.Told) (l : Link) (e : Option LinkEntry) : (s.setEntry l e).Told := h.same rfl

theorem State.Told.onEntry (h : s.Told) (l : Link) (f : LinkEntry → LinkEntry) : (s.onEntry l f).Told := h.same rfl

theorem State.Told.place (h : s.Told) (f : OutFrame) : (s.place f).Told := h.same rfl

theorem State.Told.sealing (h : s.Told) (x : Seal) : (s.sealing x).Told := h.same rfl

theorem State.Told.append (h : s.Told) (j : Job) : (s.append j).Told := h.same rfl

theorem State.Told.removeFirst (h : s.Told) (l : Link) : (s.removeFirst l).Told := h.same rfl

theorem State.Told.removeLane (h : s.Told) (lane : Lane) : (s.removeLane lane).Told := h.same rfl

theorem State.Told.withdraw (h : s.Told) (l : Link) (sort : Work → Bool) : (s.withdraw l sort).Told := h.same rfl

/-! ## Root store -/

/-- The parts of the state from which notices follow, and the unsolicited slots in use. -/
def State.notices (s : State) := (s.monitor, s.unsolicitedInUse)


theorem State.requestWrite_notices (s : State) (e : EntryNo) : (s.requestWrite e).notices = s.notices := by
  have joins : ∀ d, (s.joinNvQueue d).notices = s.notices := fun d => by
    unfold State.joinNvQueue
    split <;> rfl
  unfold State.requestWrite
  split
  · exact joins e
  · split
    · rfl
    · exact joins e

theorem State.raiseCeiling_monitor (s : State) (e : EntryNo) : (s.raiseCeiling e).monitor = s.monitor := by
  unfold State.raiseCeiling
  split
  · exact congrArg Prod.fst (State.requestWrite_notices _ e)
  · rfl

theorem State.startWrite_notices (s : State) : s.startWrite.notices = s.notices := by
  unfold State.startWrite
  split <;> rfl

theorem State.cutWrite_notices (s : State) : s.cutWrite.notices = s.notices := by
  unfold State.cutWrite
  split
  · rfl
  · split <;> rfl

/-! ## Rounds and triggers -/

theorem State.Told.failRound (h : s.Told) (l : Link) : (s.failRound l).Told := by
  unfold State.failRound
  split
  · exact h
  · have reported := h.occurrence l .renewFail none none
    dsimp only
    split
    · exact reported.same rfl
    · exact reported.same rfl

theorem State.Told.wornRoot (h : s.Told) (l : Link) : (s.wornRoot l).Told := by
  unfold State.wornRoot
  split
  · exact h.failRound l
  · exact h.failRound l
  all_goals exact h

theorem State.Told.askFirst (h : s.Told) (fuel : Nat) (l : Link) : (askFirst fuel l s).Told := by
  induction fuel generalizing s with
  | zero => exact h
  | succ fuel ih =>
    unfold Machine.askFirst
    split
    · exact h
    · split
      · exact h.same rfl
      · exact h.same (State.raiseCeiling_monitor _ _)
      · exact ih ((h.removeFirst l).serveReleased.wornRoot l)

theorem State.Told.settleFirst (h : s.Told) (l : Link) : (s.settleFirst l).Told := h.askFirst _ l

theorem State.createNext_monitor (s : State) (l : Link) : (s.createNext l).monitor = s.monitor := by
  unfold State.createNext
  split <;> rfl

theorem State.appendOffer_monitor (s : State) (l : Link) : (s.appendOffer l).monitor = s.monitor := by
  unfold State.appendOffer
  split <;> rfl

theorem State.appendAsk_monitor (s : State) (l : Link) : (s.appendAsk l).monitor = s.monitor := by
  unfold State.appendAsk
  split <;> rfl

theorem State.Told.requestOffer (h : s.Told) (l : Link) : (s.requestOffer l).Told := by
  have appended : ((s.createNext l).appendOffer l).Told :=
    h.same ((State.appendOffer_monitor _ l).trans (s.createNext_monitor l))
  unfold State.requestOffer
  split
  · exact (appended.onRenewal l _).settleFirst l
  · exact h

theorem State.Told.retryOffer (h : s.Told) (l : Link) : (s.retryOffer l).Told := by
  have appended : (s.appendOffer l).Told := h.same (s.appendOffer_monitor l)
  unfold State.retryOffer
  split
  · exact (appended.onRenewal l _).settleFirst l
  · exact h.onRenewal l _

theorem State.Told.requestAsk (h : s.Told) (l : Link) : (s.requestAsk l).Told := by
  have appended : (s.appendAsk l).Told := h.same (s.appendAsk_monitor l)
  unfold State.requestAsk
  split
  · exact (appended.onRenewal l _).settleFirst l
  · exact h

theorem State.Told.retryAsk (h : s.Told) (l : Link) : (s.retryAsk l).Told := by
  have appended : (s.appendAsk l).Told := h.same (s.appendAsk_monitor l)
  unfold State.retryAsk
  split
  · exact (appended.onRenewal l _).settleFirst l
  · exact h.onRenewal l _

theorem State.Told.startRound (h : s.Told) (l : Link) : (s.startRound l).Told := by
  unfold State.startRound
  split
  · exact h
  · split
    · exact (h.onRenewal l _).requestOffer l
    · exact (h.onRenewal l _).requestAsk l

theorem State.Told.trigger (h : s.Told) (l : Link) (reason : Reason) : (s.trigger l reason).Told := by
  unfold State.trigger
  split
  · exact (h.onRenewal l _).startRound l
  · exact h.onRenewal l _

/-! ## Outbound traffic -/

theorem State.Told.softCross (h : s.Told) (l : Link) (role : SlotRole) : (s.softCross l role).Told := by
  unfold State.softCross
  split
  · exact h
  · split
    · exact (h.setKeys l _).trigger l .wear
    · exact h

theorem State.Told.acceptOutbound (h : s.Told) (l : Link) (k : KeySlot) (n : Nat) (work : SlotBinding → Nat → Work) :
    (s.acceptOutbound l k n work).Told :=
  ((((h.setKeys l _).append _).onEntry l _).onRenewal l _).softCross l _

theorem State.Told.refuseForWear (h : s.Told) (l : Link) (k : KeySlot) : (s.refuseForWear l k).Told := by
  have reported := h.occurrence l .spent (some k.epoch) none
  unfold State.refuseForWear
  dsimp only
  split
  · exact reported.trigger l .spent
  · exact reported

theorem State.Told.requestTraffic (h : s.Told) (l : Link) (work : SlotBinding → Nat → Work) :
    (s.requestTraffic l work).Told := by
  unfold State.requestTraffic
  split
  · exact h
  · split
    · exact h.acceptOutbound l _ 0 work
    · exact h.refuseForWear l _
    · exact h
    · exact h

theorem State.Told.requestConfirm (h : s.Told) (l : Link) : (s.requestConfirm l).Told := by
  unfold State.requestConfirm
  split
  · exact h.occurrence l .beatSkip none none
  all_goals exact h.requestTraffic l .beat

/-! ## The expiries and requests of a tick -/

theorem State.Told.expireBeat (h : s.Told) (l : Link) : (s.expireBeat l).Told := by
  have requested := h.requestTraffic l .beat
  unfold State.expireBeat
  split
  · exact h
  · split
    · unfold State.takeBeatExpiry
      dsimp only
      split
      · exact requested
      · exact (h.occurrence l .beatSkip none none).onEntry l _
      · exact requested.onEntry l _
      · exact h.onEntry l _
    · exact h

theorem State.Told.takeClaim (h : s.Told) (l : Link) : (s.takeClaim l).Told := by
  have taken : (s.onRenewal l fun c => { c with claimDue := false }).Told := h.onRenewal l _
  unfold State.takeClaim
  dsimp only
  split
  · exact taken.requestOffer l
  · exact taken.requestAsk l
  · exact taken.retryOffer l
  · exact taken.retryAsk l
  all_goals exact taken

theorem State.Told.expireOffer (h : s.Told) (l : Link) : (s.expireOffer l).Told := by
  have stopped : (s.stopStep l).Told := h.onRenewal l _
  unfold State.expireOffer
  split
  · exact h
  · split
    · split
      · exact stopped.retryOffer l
      · exact stopped.failRound l
    · exact h

theorem State.Told.expireAsk (h : s.Told) (l : Link) : (s.expireAsk l).Told := by
  have stopped : (s.stopStep l).Told := h.onRenewal l _
  unfold State.expireAsk
  split
  · exact h
  · split
    · split
      · exact stopped.retryAsk l
      · exact stopped.failRound l
    · exact h

theorem State.Told.expireRest (h : s.Told) (l : Link) : (s.expireRest l).Told := by
  unfold State.expireRest
  split
  · split
    · exact h.startRound l
    · exact h.onRenewal l _
  · exact h

theorem State.Told.expireRenewal (h : s.Told) (l : Link) : (s.expireRenewal l).Told := by
  unfold State.expireRenewal
  split
  · exact h
  · split
    · exact (((h.onRenewal l _).occurrence l _ _ none).onRenewal l _).trigger l .due
    · exact h

theorem State.Told.expireSilence (h : s.Told) (l : Link) : (s.expireSilence l).Told := by
  unfold State.expireSilence
  split
  · exact h
  · next e _ =>
    have reported := (h.setEntry l (some e.silent)).occurrence l .silent none none
    split
    · dsimp only
      split
      · exact reported.trigger l .loss
      · exact reported
    · exact h

/-- An event that makes a control request leaves the pending links told of. -/
theorem State.Told.takeControlClaim (h : s.Told) (c : ControlClaim) : (s.takeControlClaim c).Told := by
  have claimed : ∀ (b : Bool) (l : Link), (if b = true then s.takeClaim l else s).Told := by
    intro b l
    split
    · exact h.takeClaim l
    · exact h
  cases c with
  | beat l => exact h.expireBeat l
  | preparing l => exact claimed _ l
  | asking l => exact claimed _ l
  | retry l => exact claimed _ l
  | confirm l =>
    change (if s.confirmDue l = true then _ else s).Told
    split
    · exact (h.onRenewal l _).requestConfirm l
    · exact h
  | offerTimer l => exact h.expireOffer l
  | askTimer l => exact h.expireAsk l
  | restTimer l => exact h.expireRest l
  | renewalTimer l => exact h.expireRenewal l
  | silence l => exact h.expireSilence l

/-! ## Contested slots -/

theorem State.Told.serveOne (h : s.Told) (claims : List ControlClaim) (n : Nat) : (s.serveOne claims n).Told := by
  unfold State.serveOne
  split
  · exact h.takeControlClaim _
  · exact h.serveLowest

theorem State.Told.serveContested (h : s.Told) (fuel : Nat) : (serveContested fuel s).Told := by
  induction fuel generalizing s with
  | zero => exact h.serveOwed
  | succ fuel ih =>
    unfold Machine.serveContested
    split
    · exact h
    · exact h.serveOwed
    · split
      · exact ih (h.chosen.serveOne _ _)
      · exact h

theorem State.Told.contestSlots (h : s.Told) {request : State → State} (keeps : ∀ u : State, u.Told → (request u).Told)
    (l : Link) (fuel : Nat) : (contestSlots l request fuel s).Told := by
  induction fuel generalizing s with
  | zero => exact keeps s h
  | succ fuel ih =>
    unfold Machine.contestSlots
    dsimp only
    split
    · split
      · exact keeps _ h.chosen
      · exact ih (h.chosen.serveOne _ _)
    · exact keeps s h

theorem State.Told.contest (h : s.Told) {request : State → State} (keeps : ∀ u : State, u.Told → (request u).Told)
    (l : Link) : (s.contest l request).Told := by
  unfold State.contest
  split
  · exact (h.contestSlots keeps l _).serveReleased
  · exact keeps s h

/-! ## Verdicts, promotion and installation -/

theorem State.Told.badVerdict (h : s.Told) (l : Link) : (s.badVerdict l).Told := by
  unfold State.badVerdict
  split
  · exact h
  · split
    · have lost := fun e => (h.setEntry l e).occurrence l .loss none none
      unfold State.loseLock
      dsimp only
      split
      · exact (lost _).trigger l .loss
      · exact lost _
    · exact h.setEntry l _

theorem State.Told.promote (h : s.Told) (l : Link) (e : LinkEntry) : (s.promote l e).Told := by
  have moved := (h.setKeys l ((s.keySet l).promote e.policy.graceTicks)).setEntry l
    (some (e.promoted (s.outboundSlot l).isSome))
  unfold State.promote
  dsimp only
  split
  · exact moved.onRenewal l _
  · exact ((moved.onRenewal l _).withdraw l _).contest (fun u told => told.requestConfirm l) l

theorem State.installOffer_monitor (s : State) (l : Link) (e : LinkEntry) (x : OfferText) :
    (s.installOffer l e x).monitor = s.monitor := by
  have lost : ∀ (b : Bool) (u : State), (if b = true then u.loseCurrent l else u).monitor = u.monitor := by
    intro b u
    split <;> rfl
  unfold State.installOffer
  dsimp only
  split
  · exact lost _ _
  · split
    · exact lost _ _
    · exact lost _ _

theorem State.Told.releaseActs (h : s.Told) (l : Link) (content : RootContent) : (s.releaseActs l content).Told := by
  cases content with
  | ask reason => exact (h.onRenewal l _).trigger l reason
  | offer x =>
    change (s.validOffer l x).Told
    unfold State.validOffer
    split
    · exact h
    · next e _ =>
      have installed : (s.installOffer l e x).Told := h.same (s.installOffer_monitor l e x)
      split
      · exact h
      · exact ((installed.onRenewal l _).withdraw l _).contest (fun u told => told.requestTraffic l .proof) l

end Sys2Proof.Machine
end

section
/-! PROOFS. Every command leaves the pending links told of and no unsolicited slot free while a notice is owed: one that
can release a slot ends by giving out what is free, and no other moves the slots in use but for a NOTICE (R145, R146).
Here the port's commands and the fault monitor's requests. -/

namespace Sys2Proof.Machine

open Sys2Proof

variable {s t : State} {l : Link} {pending : Link → Bool}

/-! ## What ends a command -/

theorem State.NoticesSound.told (h : s.NoticesSound) : s.Told := (State.noticesSound_iff.mp h).1

theorem State.NoticesSound.settled (h : s.NoticesSound) : s.Settled := (State.noticesSound_iff.mp h).2

theorem State.NoticesSound.same (h : s.NoticesSound) (same : t.notices = s.notices) : t.NoticesSound := by
  have monitor : t.monitor = s.monitor := congrArg (fun x => x.1) same
  have owed : t.owed = s.owed := congrArg (fun x => x.1.2.2) same
  have inUse : t.unsolicitedInUse = s.unsolicitedInUse := congrArg (fun x => x.2) same
  refine State.noticesSound_iff.mpr ⟨h.told.same monitor, ?_⟩
  rw [State.Settled, owed, inUse]
  exact h.settled

/-- Slots left free are given out (R145, R146). -/
theorem State.Told.freed (h : s.Told) : s.serveFreed.NoticesSound :=
  State.noticesSound_iff.mpr ⟨h.serveContested _, (serveContested_serves _ s).2⟩

theorem State.output_inUse {frames : List OutFrame} (same : frames.countP OutFrame.isUnsolicited =
    s.output.countP OutFrame.isUnsolicited) : State.notices { s with output := frames } = s.notices :=
  congrArg (fun n => (s.monitor, n + s.controlJobs)) same

/-- A frame in a request-owned slot (R162). -/
theorem State.NoticesSound.place (h : s.NoticesSound) {f : OutFrame} (reply : f.share = .requestOwned) :
    (s.place f).NoticesSound := by
  refine h.same (State.output_inUse ?_)
  have other : ¬ f.isUnsolicited = true := by simp [OutFrame.isUnsolicited, reply]
  rw [List.countP_append, List.countP_singleton, if_neg other, Nat.add_zero]

theorem State.NoticesSound.reply (h : s.NoticesSound) (r : Request) (status : Status) (fields : List Byte) :
    (s.reply r status fields).NoticesSound :=
  h.place rfl

theorem State.Told.finishLane (h : s.Told) (lane : Lane) (l : Link) : (s.finishLane lane l).NoticesSound :=
  ((h.removeLane lane).settleFirst l).freed

theorem countP_changeFirst {α : Type} {p q : α → Bool} {f : α → α} (same : ∀ x, q (f x) = q x) (xs : List α) :
    (changeFirst p f xs).countP q = xs.countP q := by
  induction xs with
  | nil => rfl
  | cons x rest ih =>
    unfold changeFirst
    split
    · rw [List.countP_cons, List.countP_cons, same]
    · rw [List.countP_cons, List.countP_cons, ih]

/-- A job changed that stays of its share leaves the slots in use (R162). -/
theorem State.changeFirst_notices (s : State) (p : Job → Bool) {f : Job → Job}
    (same : ∀ j, (f j).isControl = j.isControl) :
    State.notices { s with pool := changeFirst p f s.pool } = s.notices :=
  congrArg (fun n => (s.monitor, s.output.countP OutFrame.isUnsolicited + n)) (countP_changeFirst same s.pool)

/-! ## The port -/

theorem State.NoticesSound.beginTransaction (h : s.NoticesSound) (lead : Byte) :
    (s.beginTransaction lead).NoticesSound := by
  unfold State.beginTransaction
  split <;> exact h.same rfl

theorem State.NoticesSound.endRead (h : s.NoticesSound) (shifted : Nat) : (s.endRead shifted).NoticesSound := by
  unfold State.endRead
  split
  · exact h
  · split
    · unfold State.removeHead
      split
      · exact h.same rfl
      · next f rest output =>
        have output : s.output = f :: rest := output
        split
        · exact State.Told.freed (h.told.same rfl)
        · next reply =>
          refine h.same (t := { s with reading := none, output := rest }) (State.output_inUse (s := s) ?_)
          rw [output, List.countP_cons, if_neg reply, Nat.add_zero]
    · exact h.same rfl

/-- Every record is at its starting values after a restart (R138, R167). -/
theorem State.restart_noticesSound (s : State) (cause : RestartCause) : (s.restart cause).NoticesSound :=
  State.reset_noticesSound.same rfl

theorem State.NoticesSound.endTransaction (h : s.NoticesSound) (bytes : List Byte) :
    (s.endTransaction bytes).NoticesSound := by
  unfold State.endTransaction
  split
  · exact h
  · split
    · split
      · exact h
      · unfold State.judgeFrame
        split
        · exact h.same rfl
        · split
          · exact s.restart_noticesSound .commanded
          · split <;> exact h.same rfl
    · exact h
    · exact h

theorem State.NoticesSound.takeUnknown (h : s.NoticesSound) : s.takeUnknown.NoticesSound := by
  unfold State.takeUnknown
  split
  · exact h
  · split
    · exact h
    · next r rest _ _ =>
      have taken : State.NoticesSound { s with requests := rest } := h.same rfl
      exact taken.place rfl

theorem takeHello_notices (r : Request) (h : s.NoticesSound) : (takeHello r s).NoticesSound := by
  have heard : State.NoticesSound { s with fresh := false } := h.same rfl
  unfold takeHello
  split
  · exact heard.reply r .ok _
  · exact h.reply r .badForm []

theorem takeStatus_notices (r : Request) (h : s.NoticesSound) : (takeStatus r s).NoticesSound := by
  unfold takeStatus
  split <;> exact h.reply ..

/-! ## The fault monitor -/

theorem State.Settled.judgePending (h : s.Settled) (l : Link) (before : Bool) : (s.judgePending l before).Settled := by
  unfold State.judgePending
  split
  · unfold State.becomePending
    split
    · exact h
    · split
      · next free =>
        have none : s.owed = [] := List.isEmpty_iff.mp (Bool.and_eq_true_iff.mp free).2
        exact .inl none
      · next full =>
        refine .inr ?_
        rcases h with none | inUse
        · simp only [none, List.isEmpty_nil, Bool.and_true, State.unsolicitedFree_iff] at full
          exact Nat.le_of_not_lt full
        · exact inUse
  · rcases h with none | full
    · exact .inl (by simp [State.ceasePending, none])
    · exact .inr full
  · exact h
  · exact h

/-- A record changed but for its mark, and its link judged again. -/
theorem State.NoticesSound.judged (h : s.NoticesSound) (l : Link) {f : FaultRecord → FaultRecord}
    (sound : ∀ r, r.Sound → (f r).Sound) (mark : ∀ r, (f r).noticeSent = r.noticeSent) :
    ((s.onFaults l f).judgePending l (s.isPending l)).NoticesSound :=
  State.noticesSound_iff.mpr
    ⟨h.told.judged l sound mark, State.Settled.judgePending (s := s.onFaults l f) h.settled l _⟩

theorem takeFaultClear_notices (r : Request) (h : s.NoticesSound) : (takeFaultClear r s).NoticesSound := by
  unfold takeFaultClear
  split
  · exact h.reply ..
  · split
    · exact h.reply ..
    · next mask _ _ _ l _ _ =>
      unfold State.faultClear
      split
      · exact h.reply ..
      · exact (h.judged l (fun _ sound => sound.clear mask) fun _ => rfl).reply ..

theorem takeFaultEnable_notices (r : Request) (h : s.NoticesSound) : (takeFaultEnable r s).NoticesSound := by
  unfold takeFaultEnable
  split
  · exact h.reply ..
  · split
    · exact h.reply ..
    · next mask _ _ l _ _ =>
      have enabled : (s.enableFaults l mask).NoticesSound := h.judged l (fun _ sound => sound) fun _ => rfl
      exact enabled.reply ..

theorem takeCounterSet_notices (r : Request) (h : s.NoticesSound) : (takeCounterSet r s).NoticesSound := by
  unfold takeCounterSet
  split
  · exact h.reply ..
  · next b _ =>
    split
    · exact h.reply ..
    · next l _ _ =>
      have value := FaultCounter.set_le ((h.told.sound l).counter b.second) b.source b.zero
      have set := h.told.onFaults l (f := fun r => r.withCounter b.second (((s.faultRecord l).counter b.second).set
        b.source b.zero)) (fun _ sound => sound.withCounter b.second value) (fun r => by cases b.second <;> rfl)
        fun r => by cases b.second <;> rfl
      exact State.NoticesSound.reply (State.noticesSound_iff.mpr ⟨set, h.settled⟩) ..

theorem State.Settled.judgeLinks (h : s.Settled) (before : State) (ls : List Link) :
    (judgeLinks before ls s).Settled := by
  induction ls generalizing s with
  | nil => exact h
  | cons l rest ih => exact ih (h.judgePending l _)

theorem judgeLinks_isPending (before : State) (ls : List Link) (s : State) (m : Link) :
    (judgeLinks before ls s).isPending m = s.isPending m := by
  induction ls generalizing s with
  | nil => rfl
  | cons l rest ih => exact (ih _).trans (s.judgePending_isPending l m _)

/-- Each of these links has been judged again. -/
theorem State.Marks.judgeLinks {before : State} {ls : List Link} (h : s.Marks pending) (once : ls.Nodup)
    (agree : ∀ m ∈ ls, before.isPending m = pending m) :
    (judgeLinks before ls s).Marks (fun m => if m ∈ ls then s.isPending m else pending m) := by
  induction ls generalizing s pending with
  | nil => exact h.congr fun m => if_neg List.not_mem_nil
  | cons l rest ih =>
    obtain ⟨new, once⟩ := List.nodup_cons.mp once
    obtain ⟨here, others⟩ := List.forall_mem_cons.mp agree
    have judged := h.judgePending l
    rw [← here] at judged
    refine State.Marks.congr (ih judged once fun m member => ?_) fun m => ?_
    · rw [others m member, Function.update_of_ne (ne_of_mem_of_not_mem member new)]
    · simp only [State.judgePending_isPending]
      by_cases same : m = l
      · rw [same, if_pos List.mem_cons_self, if_neg new, Function.update_self]
      · simp [same]

/-- The notice mode set and every link judged again (R149). -/
theorem State.NoticesSound.setMode (h : s.NoticesSound) (mode : NoticeMode) : (s.setMode mode).NoticesSound := by
  have moved : State.Marks { s with noticeMode := mode } s.isPending := State.Marks.same h.told rfl rfl
  have judged := moved.judgeLinks (List.nodup_finRange 64) fun m _ => rfl
  refine State.noticesSound_iff.mpr ⟨judged.congr fun m => ?_, ?_⟩
  · rw [if_pos (List.mem_finRange m)]
    exact judgeLinks_isPending ..
  · exact State.Settled.judgeLinks (s := { s with noticeMode := mode }) h.settled s _

theorem takeNoticeMode_notices (r : Request) (h : s.NoticesSound) : (takeNoticeMode r s).NoticesSound := by
  unfold takeNoticeMode
  split
  · exact h.reply ..
  · exact (h.setMode _).reply ..
  · split
    · exact h.reply ..
    · exact (h.setMode _).reply ..

theorem takeLogRead_notices (r : Request) (h : s.NoticesSound) : (takeLogRead r s).NoticesSound := by
  unfold takeLogRead
  split
  · exact h.reply ..
  · next n _ =>
    have drained : State.NoticesSound { s with log := s.log.drop n, lost := 0 } := h.same rfl
    exact drained.reply ..

end Sys2Proof.Machine
end

section
/-! PROOFS. The commands of the links, of the record engine and of the root store, and the step that keeps the notices
sound (R137, R143, R145, R147). -/

namespace Sys2Proof.Machine

open Sys2Proof

variable {s t : State} {l : Link} {pending : Link → Bool}

/-! ## The link supervisor -/

theorem onAttached_notices {f : Request → Link → LinkEntry → State → State} (r : Request) (h : s.NoticesSound)
    (keeps : ∀ l e, (f r l e s).NoticesSound) : (onAttached f r s).NoticesSound := by
  unfold onAttached
  split
  · exact h.reply ..
  · split
    · exact h.reply ..
    · exact keeps _ _

/-- The record of a CLOSED link is at its starting values, so ATTACH leaves it as it was (R118, R138). -/
theorem State.Told.attachLink (h : s.Told) (starting : s.faultRecord l = FaultRecord.initial) (e : EntryNo)
    (c : RootContents) (items : List PolicyItem) : (s.attachLink l e c items).Told := by
  refine State.Told.trigger (s := State.setFaults ((s.setRoot e { s.root e with bound := some l }).setEntry l
    (some (attachedEntry e c items))) l FaultRecord.initial) (h.same ?_) l .start
  exact congrArg (fun x => (x, s.noticeMode, s.owed)) (Table.put_look starting)

theorem takeAttach_notices (r : Request) (starting : ∀ l, s.entry l = none → s.faultRecord l = FaultRecord.initial)
    (h : s.NoticesSound) : (takeAttach r s).NoticesSound := by
  unfold takeAttach
  split
  · exact h.reply ..
  · split
    · exact h.reply ..
    · next l _ =>
      split
      · exact h.reply ..
      · next closed =>
        have starting := starting l (Option.not_isSome_iff_eq_none.mp closed)
        split
        · exact h.reply ..
        · split
          · exact h.reply ..
          · exact ((h.told.attachLink starting _ _ _).place _).freed

/-- A link whose record takes its starting values is neither pending nor told of (R119, R138). -/
theorem State.Marks.cleared (h : s.Marks pending) (here : t.faultRecord l = FaultRecord.initial)
    (others : ∀ m, m ≠ l → t.faultRecord m = s.faultRecord m) (owed : t.owed = s.owed.filter fun m => decide (m ≠ l)) :
    t.Marks (Function.update pending l false) := by
  refine ⟨fun m => ?_, fun m => ?_, fun m member => ?_, owed ▸ h.rising.filter _⟩
  · by_cases same : m = l
    · rw [same, here]
      simp [FaultRecord.Sound, FaultRecord.initial]
    · exact others m same ▸ h.sound m
  · by_cases same : m = l
    · simp [same, here, owed, FaultRecord.initial]
    · simp [same, others m same, owed, h.marked]
  · obtain ⟨member, other⟩ : m ∈ s.owed ∧ m ≠ l := by simpa [owed] using member
    exact others m other ▸ h.once m member

theorem State.Told.droppedLink (h : s.Told) (l : Link) (e : LinkEntry) : (s.droppedLink l e).Told := by
  have here : (s.droppedLink l e).faultRecord l = FaultRecord.initial := Table.look_put_same ..
  have others : ∀ m, m ≠ l → (s.droppedLink l e).faultRecord m = s.faultRecord m := fun m other =>
    Table.look_put_ne _ _ _ _ other
  refine State.Marks.congr (State.Marks.cleared h here others rfl) fun m => ?_
  by_cases same : m = l
  · rw [same, Function.update_self, State.isPending, here]
    rfl
  · rw [Function.update_of_ne same]
    exact State.isPending_congr (congrArg _ (others m same)) rfl

theorem takeDetach_notices (r : Request) (h : s.NoticesSound) : (takeDetach r s).NoticesSound := by
  refine onAttached_notices r h fun l e => State.NoticesSound.reply ?_ ..
  rw [State.detachLink_eq]
  exact (h.told.droppedLink l e).freed

theorem takePolicy_notices (r : Request) (h : s.NoticesSound) : (takePolicy r s).NoticesSound := by
  unfold takePolicy
  split
  · exact h.reply ..
  · split
    · exact h.reply ..
    · next items _ _ l e _ =>
      have written : (s.setEntry l (some (e.withPolicy items (s.outboundSlot l).isSome))).NoticesSound := h.same rfl
      exact written.reply ..

theorem takeLinkRead_notices (r : Request) (h : s.NoticesSound) : (takeLinkRead r s).NoticesSound := by
  unfold takeLinkRead
  split
  · exact h.reply ..
  · split
    · exact h.reply ..
    · split <;> exact h.reply ..

theorem takeRenew_notices (r : Request) (h : s.NoticesSound) : (takeRenew r s).NoticesSound := by
  refine onAttached_notices r h fun l e => ?_
  split
  · exact ((h.told.trigger l .host).place _).freed
  · exact h.reply ..

/-! ## The record engine -/

theorem takeEncipher_notices (r : Request) (h : s.NoticesSound) : (takeEncipher r s).NoticesSound := by
  unfold takeEncipher
  split
  · exact h.reply ..
  · split
    · exact h.reply ..
    · split
      · exact h.reply ..
      · split
        · exact h.reply ..
        · split
          · exact (h.told.acceptOutbound _ _ _ _).freed
          · exact ((h.told.refuseForWear _ _).place _).freed

theorem State.Told.dropAtHeader (h : s.Told) (r : Request) (l : Link) (e : LinkEntry) (record : List Byte)
    (k : FaultKind) : (s.dropAtHeader r l e record k).NoticesSound := by
  unfold State.dropAtHeader
  dsimp only
  refine (State.Told.place ?_ _).freed
  split
  · exact h.occurrence l k _ _
  · split
    · split
      · exact (h.chosen.occurrence l k _ _).badVerdict l
      · exact (h.chosen.badVerdict l).occurrence l k _ _
    · exact (h.occurrence l k _ _).badVerdict l

/-- A host job holds no unsolicited slot (R162). -/
theorem State.NoticesSound.acceptDecipher (h : s.NoticesSound) (r : Request) (l : Link) {work : Work}
    (host : work.isHost = true) : (s.acceptDecipher r l work).NoticesSound := by
  unfold State.acceptDecipher
  split
  · have jobs : (s.append { link := l, state := .waiting, work := work }).controlJobs = s.controlJobs := by
      simp [State.controlJobs, Job.isControl, host]
    exact h.same (congrArg (fun n => (s.monitor, s.output.countP OutFrame.isUnsolicited + n)) jobs)
  · exact h.reply ..

theorem State.NoticesSound.checkHeader (h : s.NoticesSound) (r : Request) (l : Link) (e : LinkEntry)
    (record : List Byte) : (s.checkHeader r l e record).NoticesSound := by
  unfold State.checkHeader
  split
  · exact h.told.dropAtHeader r l e record .form
  · split
    · split
      · exact h.told.dropAtHeader r l e record .form
      · exact h.acceptDecipher r l rfl
    · split
      · exact h.told.dropAtHeader r l e record .epoch
      · split
        · exact h.told.dropAtHeader r l e record .epoch
        · exact h.acceptDecipher r l rfl

theorem takeDecipher_notices (r : Request) (h : s.NoticesSound) : (takeDecipher r s).NoticesSound := by
  unfold takeDecipher
  split
  · exact h.reply ..
  · split
    · exact h.reply ..
    · exact h.checkHeader r _ _ _

theorem State.NoticesSound.completeEncipher (h : s.NoticesSound) (lane : Lane) :
    (s.completeEncipher lane).NoticesSound := by
  unfold State.completeEncipher
  split
  · exact h
  · split
    · exact ((h.told.sealing _).place _).finishLane lane _
    · exact h

theorem State.Told.dropInbound (h : s.Told) (l : Link) (k : FaultKind) (record : List Byte) :
    (s.dropInbound l k record).Told :=
  (h.badVerdict l).occurrence l k _ _

theorem State.Told.acceptInbound (h : s.Told) (l : Link) (e : LinkEntry) (role : SlotRole) (k : KeySlot)
    (record : List Byte) : (s.acceptInbound l e role k record).Told := by
  unfold State.acceptInbound
  dsimp only
  refine State.Told.onEntry ?_ l LinkEntry.good
  split
  · exact ((h.setKeys l _).softCross l role).promote l e
  · exact (h.setKeys l _).softCross l role

theorem State.Told.judgeTraffic (h : s.Told) (l : Link) (e : LinkEntry) (slot : SlotBinding) (record : List Byte) :
    (s.judgeTraffic l e slot record).1.Told := by
  unfold State.judgeTraffic
  split
  · exact h.dropInbound l .tag record
  · split
    · exact h.dropInbound l .epoch record
    · split
      · exact h.dropInbound l .epoch record
      · split
        · exact h.acceptInbound l e _ _ record
        · unfold State.dropDuplicate
          split
          · exact h.dropInbound l .replay record
          · exact h.countKind l .replay
        · exact h.dropInbound l .late record

theorem State.NoticesSound.completeTraffic (h : s.NoticesSound) (lane : Lane) :
    (s.completeTraffic lane).NoticesSound := by
  unfold State.completeTraffic
  split
  · exact h
  · split
    · exact ((h.told.judgeTraffic _ _ _ _).place _).finishLane lane _
    · exact h

theorem State.NoticesSound.holdRoot (h : s.NoticesSound) (lane : Lane) (e : EntryNo) (record : List Byte)
    (content : RootContent) : (s.holdRoot lane e record content).NoticesSound := by
  have held := State.changeFirst_notices s (fun j => j.isIn lane) (f := fun j => { j with state := .held content })
    fun _ => rfl
  exact h.same ((State.requestWrite_notices _ e).trans held)

theorem State.NoticesSound.completeRoot (h : s.NoticesSound) (lane : Lane) : (s.completeRoot lane).NoticesSound := by
  unfold State.completeRoot
  split
  · exact h
  · split
    · split
      · exact ((h.told.occurrence _ _ _ _).place _).finishLane lane _
      · exact h.holdRoot lane _ _ _
    · exact h

theorem State.NoticesSound.completeControl (h : s.NoticesSound) (lane : Lane) :
    (s.completeControl lane).NoticesSound := by
  unfold State.completeControl
  split
  · exact h
  · split
    · exact h
    · split
      · exact h
      · exact (((h.told.sealing _).place _).onRenewal _ _).finishLane lane _

theorem Job.isControl_withClaim (c : CounterClaim) (j : Job) : (j.withClaim c).isControl = j.isControl := by
  rw [Job.isControl_eq, Job.isHost_withClaim, Job.isControl_eq]

theorem State.takeCounter_notices (s : State) (l : Link) : (s.takeCounter l).notices = s.notices := by
  unfold State.takeCounter
  split
  · rfl
  · exact s.changeFirst_notices _ (Job.isControl_withClaim _)

theorem State.NoticesSound.grant (h : s.NoticesSound) (lane : Lane) : (s.grant lane).NoticesSound := by
  unfold State.grant
  split
  · next l _ _ =>
    have moved := (s.takeCounter l).changeFirst_notices (fun j => decide (j.link = l))
      (f := fun j => { j with state := .inLane lane }) fun _ => rfl
    exact h.same (moved.trans (s.takeCounter_notices l))
  · exact h
  · exact h

/-! ## The root store -/

theorem takeRootLoad_notices (r : Request) (h : s.NoticesSound) : (takeRootLoad r s).NoticesSound := by
  unfold takeRootLoad
  split
  · exact h.reply ..
  · split
    · exact h.reply ..
    · split
      · exact h.reply ..
      · next b _ _ _ key _ =>
        exact h.same (State.requestWrite_notices (s.setRoot b.entry ((s.root b.entry).load b key)) b.entry)

theorem takeRootErase_notices (r : Request) (h : s.NoticesSound) : (takeRootErase r s).NoticesSound := by
  unfold takeRootErase
  split
  · exact h.reply ..
  · split
    · exact h.reply ..
    · split
      · exact h.reply ..
      · next e _ _ _ =>
        exact h.same (State.requestWrite_notices (s.setRoot e { s.root e with contents := none }) e)

theorem takeRootRead_notices (r : Request) (h : s.NoticesSound) : (takeRootRead r s).NoticesSound := by
  unfold takeRootRead
  split <;> exact h.reply ..

theorem State.Told.reportWrite (h : s.Told) (e : EntryNo) : (s.reportWrite e).Told := by
  unfold State.reportWrite
  split
  · exact h
  · split
    · exact h
    · split
      · split
        · exact (((h.releaseActs _ _).place _).removeFirst _).settleFirst _
        · exact h
      · split
        · split
          · exact h.same rfl
          · exact h
        · exact h
      · exact h

theorem State.NoticesSound.completeWrite (h : s.NoticesSound) : s.completeWrite.NoticesSound := by
  unfold State.completeWrite
  split
  · exact h
  · next w _ =>
    have landed : State.Told { s.landWrite w with
      nvWrite := none, nvQueue := s.nvQueue.tail ++ if w.again then [w.entry] else [] } := h.told.same rfl
    have replied : ((State.reportWrite _ w.entry).placeRootReplies w.entry).Told :=
      (landed.reportWrite w.entry).same rfl
    exact State.Told.freed (replied.same (congrArg Prod.fst (State.startWrite_notices _)))

/-! ## Time -/

theorem State.NoticesSound.expireGrace (h : s.NoticesSound) (l : Link) : (s.expireGrace l).NoticesSound := by
  unfold State.expireGrace
  split
  · exact h.same rfl
  · exact h

/-! ## One step -/

theorem takeRequest_notices {kind : Byte} {f : Request → State → State} (h : s.NoticesSound)
    (keeps : ∀ r (u : State), u.links = s.links → u.faults = s.faults → u.NoticesSound → (f r u).NoticesSound) :
    (takeRequest kind f s).NoticesSound := by
  unfold takeRequest
  split
  · exact h
  · split
    · exact keeps _ _ rfl rfl (h.same rfl)
    · exact h

theorem act_notices {f : State → State} (h : s.NoticesSound)
    (keeps : ∀ u : State, u.links = s.links → u.faults = s.faults → u.NoticesSound → (f u).NoticesSound)
    (next : act f s = .next t) : t.NoticesSound := by
  obtain rfl := Host.Outcome.next.inj next
  split
  · exact keeps s rfl rfl h
  · split
    · split
      · exact h.same rfl
      · exact keeps _ rfl rfl (h.same rfl)
    · exact h

theorem State.Told.controlCommand (h : s.Told) (c : ControlClaim) : (s.takeControlClaim c).serveFreed.NoticesSound :=
  (h.takeControlClaim c).freed

/-- Every command keeps the notices sound, where a CLOSED link's record holds its starting values. -/
theorem exec_notices {c : Instr} (starting : ∀ l, s.entry l = none → s.faultRecord l = FaultRecord.initial)
    (h : s.NoticesSound) (next : exec c s = .next t) : t.NoticesSound := by
  have plain {f : State → State} (keeps : ∀ u : State, u.NoticesSound → (f u).NoticesSound)
      (next : act f s = .next t) : t.NoticesSound := act_notices h (fun u _ _ => keeps u) next
  have taken {kind : Byte} {f : Request → State → State}
      (keeps : ∀ r (u : State), u.NoticesSound → (f r u).NoticesSound)
      (next : act (takeRequest kind f) s = .next t) : t.NoticesSound :=
    plain (fun u sound => takeRequest_notices sound fun r v _ _ => keeps r v) next
  cases c with
  | frameArrival bytes => exact plain (fun _ sound => sound.endTransaction bytes) next
  | readLeadByte => exact plain (fun _ sound => sound.beginTransaction readLead) next
  | readEnd shifted => exact plain (fun _ sound => sound.endRead shifted) next
  | restart => exact plain (fun u _ => u.restart_noticesSound .commanded) next
  | resetAssert =>
    obtain rfl := Host.Outcome.next.inj next
    split
    · exact h.same s.cutWrite_notices
    · exact h.same rfl
  | resetRelease =>
    obtain rfl := Host.Outcome.next.inj next
    split
    · split
      · exact State.restart_noticesSound _ .pin
      · exact h.same rfl
    · exact h
  | powerOn =>
    obtain rfl := Host.Outcome.next.inj next
    exact State.restart_noticesSound _ .power
  | powerLoss =>
    obtain rfl := Host.Outcome.next.inj next
    split
    · exact State.reset_noticesSound.same rfl
    · exact h
  | hello => exact taken (fun r _ => takeHello_notices r) next
  | status => exact taken (fun r _ => takeStatus_notices r) next
  | unknownKind => exact plain (fun _ sound => sound.takeUnknown) next
  | rootLoad => exact taken (fun r _ => takeRootLoad_notices r) next
  | rootErase => exact taken (fun r _ => takeRootErase_notices r) next
  | rootRead => exact taken (fun r _ => takeRootRead_notices r) next
  | attach =>
    refine act_notices h (fun u links faults sound =>
      takeRequest_notices sound fun r v links' faults' sound' => ?_) next
    refine takeAttach_notices r (fun l closed => ?_) sound'
    rw [State.entry, links', links] at closed
    rw [State.faultRecord, faults', faults]
    exact starting l closed
  | detach => exact taken (fun r _ => takeDetach_notices r) next
  | policy => exact taken (fun r _ => takePolicy_notices r) next
  | linkRead => exact taken (fun r _ => takeLinkRead_notices r) next
  | keyRead => exact taken (fun r _ sound => onAttached_notices r sound fun _ _ => sound.reply ..) next
  | renew => exact taken (fun r _ => takeRenew_notices r) next
  | encipher => exact taken (fun r _ => takeEncipher_notices r) next
  | decipher => exact taken (fun r _ => takeDecipher_notices r) next
  | faultRead => exact taken (fun r _ sound => onAttached_notices r sound fun _ _ => sound.reply ..) next
  | faultClear => exact taken (fun r _ => takeFaultClear_notices r) next
  | faultEnable => exact taken (fun r _ => takeFaultEnable_notices r) next
  | counterSet => exact taken (fun r _ => takeCounterSet_notices r) next
  | noticeMode => exact taken (fun r _ => takeNoticeMode_notices r) next
  | logRead => exact taken (fun r _ => takeLogRead_notices r) next
  | tick => exact plain (f := State.tick) (fun _ sound => sound.same rfl) next
  | graceExpiry l => exact plain (fun _ sound => sound.expireGrace l) next
  | offerTimerExpiry l => exact plain (fun _ sound => sound.told.controlCommand (.offerTimer l)) next
  | askTimerExpiry l => exact plain (fun _ sound => sound.told.controlCommand (.askTimer l)) next
  | restTimerExpiry l => exact plain (fun _ sound => sound.told.controlCommand (.restTimer l)) next
  | renewalTimerExpiry l => exact plain (fun _ sound => sound.told.controlCommand (.renewalTimer l)) next
  | silenceExpiry l => exact plain (fun _ sound => sound.told.controlCommand (.silence l)) next
  | beatExpiry l => exact plain (fun _ sound => sound.told.controlCommand (.beat l)) next
  | preparingOfferRequest l => exact plain (fun _ sound => sound.told.controlCommand (.preparing l)) next
  | askingAskRequest l => exact plain (fun _ sound => sound.told.controlCommand (.asking l)) next
  | retryOwedRequest l => exact plain (fun _ sound => sound.told.controlCommand (.retry l)) next
  | confirmBeatRequest l => exact plain (fun _ sound => sound.told.controlCommand (.confirm l)) next
  | grant lane => exact plain (fun _ sound => sound.grant lane) next
  | encipherCompletion lane => exact plain (fun _ sound => sound.completeEncipher lane) next
  | trafficDecipherCompletion lane => exact plain (fun _ sound => sound.completeTraffic lane) next
  | rootDecipherCompletion lane => exact plain (fun _ sound => sound.completeRoot lane) next
  | controlJobCompletion lane => exact plain (fun _ sound => sound.completeControl lane) next
  | nvWriteStart => exact plain (fun u sound => sound.same u.startWrite_notices) next
  | nvWriteCompletion => exact plain (fun _ sound => sound.completeWrite) next

/-- Settles O54: a link judged after a change of its record is told of, and every command gives out the slots it
frees. -/
theorem stepKeepsNotices : Obligations.StepKeepsNotices := by
  unfold Obligations.StepKeepsNotices
  intro s t bindings notices next
  have starting : ∀ l, s.entry l = none → s.faultRecord l = FaultRecord.initial := fun l closed => by
    obtain ⟨-, -, record, -, -⟩ := bindings.2 l closed
    exact record
  unfold step at next
  split at next
  · obtain rfl := Host.Outcome.next.inj next
    exact notices.same rfl
  · next c rest _ => exact exec_notices (s := { s with pending := rest }) starting (notices.same rfl) next

end Sys2Proof.Machine
end

section
/-! PROOFS. A link judged again (R143, R145, R147), and an occurrence: what it does to the record of its link and the
log, and the notice that follows (R139, R140, R144, R155). -/

namespace Sys2Proof.Machine

open Sys2Proof

variable {s : State} {l : Link} {r : Request} {rest : List Request} {x : FaultRecord}

/-! ## A link judged again (R143, R145, R147) -/

theorem State.isPending_iff : s.isPending l = true ↔
    (s.faultRecord l).flags &&& (s.faultRecord l).enabled ≠ 0#13 ∧ s.noticeMode.includes l = true := by
  simp only [State.isPending, FaultRecord.meets, FaultSet.meets, Bool.and_eq_true, bne_iff_ne]

theorem State.judgePending_unmoved {before : Bool} (same : s.isPending l = before) : s.judgePending l before = s := by
  cases before <;> simp only [State.judgePending, same]

theorem State.judgePending_becomes (now : s.isPending l = true) : s.judgePending l false = s.becomePending l := by
  simp only [State.judgePending, now]

theorem State.judgePending_ceases (now : s.isPending l = false) : s.judgePending l true = s.ceasePending l := by
  simp only [State.judgePending, now]

theorem State.becomePending_sent (sent : (s.faultRecord l).noticeSent = true) : s.becomePending l = s := by
  rw [State.becomePending, if_pos sent]

theorem State.becomePending_noticed (unsent : (s.faultRecord l).noticeSent = false) (free : s.unsolicitedInUse < 16)
    (none : s.owed = []) : s.becomePending l = { s with
      faults := s.faults.put l { s.faultRecord l with noticeSent := true }
      output := s.output ++ [s.noticeNow l] } := by
  have room : (s.unsolicitedFree && s.owed.isEmpty) = true := by
    rw [s.unsolicitedFree_iff.mpr free, none]
    rfl
  rw [State.becomePending, if_neg (Bool.eq_false_iff.mp unsent), if_pos room]
  rfl

theorem State.becomePending_owed (unsent : (s.faultRecord l).noticeSent = false)
    (taken : 16 ≤ s.unsolicitedInUse ∨ s.owed ≠ []) :
    s.becomePending l = { s with owed := joinOwed l s.owed } := by
  have room : ¬ (s.unsolicitedFree && s.owed.isEmpty) = true := by
    rw [Bool.and_eq_true, s.unsolicitedFree_iff, List.isEmpty_iff, not_and_or, Nat.not_lt]
    exact taken
  rw [State.becomePending, if_neg (Bool.eq_false_iff.mp unsent), if_neg room]

/-- A link joins the owed set, which keeps its order (R145). -/
theorem joinOwed_adds (l : Link) (xs : List Link) : l ∈ joinOwed l xs ∧ (∀ m, m ≠ l → (m ∈ joinOwed l xs ↔ m ∈ xs)) ∧
    (xs.Pairwise (· < ·) → (joinOwed l xs).Pairwise (· < ·)) :=
  ⟨mem_joinOwed.mpr (.inl rfl), fun _ other => mem_joinOwed.trans (or_iff_right other),
    fun rising => joinOwed_rising rising l⟩

/-! ## An occurrence (R139, R140, R155) -/

theorem FaultSet.has_iff (f : FaultSet) (k : FaultKind) : f.has k = true ↔ f &&& (1#13 <<< k.code) ≠ 0#13 := by
  have bit : 1#13 <<< k.code = BitVec.twoPow 13 k.code := rfl
  have nonzero : BitVec.twoPow 13 k.code ≠ 0#13 := by
    cases k <;> decide
  rw [FaultSet.has, bit, BitVec.and_twoPow]
  cases f.getLsbD k.code <;> simp [nonzero]

/-- A link's record replaced. -/
abbrev State.recorded (s : State) (l : Link) (x : FaultRecord) : State := { s with faults := s.faults.put l x }

/-- The record after an occurrence of a kind whose flag is not set (R139, R140). -/
def FaultRecord.occurred (x : FaultRecord) (c : Capture) : FaultRecord := { x with
  counterA := x.counterA.count c.kind, counterB := x.counterB.count c.kind, flags := x.flags ||| (1#13 <<< c.kind.code)
  stamp := (x.stamp + 1) % 65536, capture := if x.capture = none then some c else x.capture }

theorem FaultRecord.flag_countKind (x : FaultRecord) (c : Capture) : (x.countKind c.kind).flag c = x.occurred c := by
  unfold FaultRecord.occurred
  cases held : x.capture <;> simp [FaultRecord.flag, FaultRecord.countKind, FaultSet.add, held]

/-- An occurrence offered to the log (R155). -/
theorem State.offerLog_eq (s : State) (entry : LogEntry) : s.offerLog entry = { s with
    log := if s.log.length < 32 then s.log ++ [entry] else s.log
    lost := if s.log.length < 32 then s.lost else min (s.lost + 1) 65535 } := by
  unfold State.offerLog
  split <;> rfl

/-- The record and the log after an occurrence of a kind whose flag is not set, before its link is judged. -/
def State.flagged (s : State) (l : Link) (c : Capture) : State := { s with
  faults := s.faults.put l ((s.faultRecord l).occurred c)
  log := if s.log.length < 32 then s.log ++ [⟨c.tick, l, c.kind, c.epoch, c.sequence⟩] else s.log
  lost := if s.log.length < 32 then s.lost else min (s.lost + 1) 65535 }

theorem State.flagged_faultRecord (s : State) (l : Link) (c : Capture) :
    (s.flagged l c).faultRecord l = (s.faultRecord l).occurred c :=
  Table.look_put_same ..

section Occurrence

variable (k : FaultKind) (epoch sequence : Option Nat)

theorem State.occurrence_counted (set : (s.faultRecord l).flags &&& (1#13 <<< k.code) ≠ 0#13) :
    s.occurrence l k epoch sequence = s.recorded l ((s.faultRecord l).countKind k) := by
  simp only [State.occurrence, ((s.faultRecord l).flags.has_iff k).mpr set, if_true]
  rfl

theorem State.occurrence_flagged (unset : (s.faultRecord l).flags &&& (1#13 <<< k.code) = 0#13) :
    s.occurrence l k epoch sequence =
      (s.flagged l ⟨k, epoch, sequence, s.tickCount⟩).judgePending l (s.isPending l) := by
  have unset : ¬ (s.faultRecord l).flags.has k = true := fun set => ((s.faultRecord l).flags.has_iff k).mp set unset
  simp only [State.occurrence, if_neg unset, State.offerLog_eq, State.onFaults, State.faultRecord_setFaults_same,
    ← FaultRecord.flag_countKind, State.flagged]
  simp only [State.setFaults, Table.put_put]

end Occurrence

/-- Flags that make a link pending still do with another flag beside them. -/
theorem FaultSet.meets_or {f enabled : FaultSet} (meets : f &&& enabled ≠ 0#13) (g : FaultSet) :
    (f ||| g) &&& enabled ≠ 0#13 := by
  refine fun none => meets (BitVec.eq_of_getElem_eq fun i bound => ?_)
  have bit := congrArg (fun x : FaultSet => x[i]) none
  simp only [BitVec.getElem_and, BitVec.getElem_or, BitVec.getElem_zero, Bool.and_eq_false_iff,
    Bool.or_eq_false_iff] at bit ⊢
  exact bit.imp_left And.left

theorem State.flagged_isPending (s : State) (l : Link) (c : Capture) : (s.flagged l c).isPending l = true ↔
    ((s.faultRecord l).flags ||| (1#13 <<< c.kind.code)) &&& (s.faultRecord l).enabled ≠ 0#13 ∧
      s.noticeMode.includes l = true := by
  rw [State.isPending_iff, State.flagged_faultRecord]
  rfl

/-- Settles O40: the link is judged after its flag is set, and is told of where it becomes pending. -/
theorem occurrenceTaken : Obligations.OccurrenceTaken := by
  unfold Obligations.OccurrenceTaken
  intro s l k epoch sequence r counted bit capture flagged entry set becomes
  have taken := State.occurrence_flagged (s := s) (l := l) k epoch sequence
  have pending := s.flagged_isPending l capture
  have record : (s.flagged l capture).faultRecord l = flagged := s.flagged_faultRecord l capture
  refine ⟨State.occurrence_counted k epoch sequence, fun unset still => (taken unset).trans ?still,
    fun unset becomes free none => (taken unset).trans ?noticed,
    fun unset becomes full => ⟨joinOwed l s.owed, (taken unset).trans ?owed, joinOwed_adds l s.owed⟩⟩
  case still =>
    cases before : s.isPending l with
    | true =>
      obtain ⟨meets, included⟩ := State.isPending_iff.mp before
      exact State.judgePending_unmoved (pending.mpr ⟨FaultSet.meets_or meets _, included⟩)
    | false =>
      cases now : (s.flagged l capture).isPending l with
      | false => exact State.judgePending_unmoved now
      | true =>
        obtain ⟨meets, included⟩ := pending.mp now
        have sent : r.noticeSent = true := by
          by_contra unsent
          exact still ⟨before, included, meets, Bool.not_eq_true _ ▸ unsent⟩
        exact (State.judgePending_becomes now).trans (State.becomePending_sent (record ▸ sent))
  case noticed =>
    obtain ⟨before, included, meets, unsent⟩ := becomes
    rw [before, State.judgePending_becomes (pending.mpr ⟨meets, included⟩)]
    refine (State.becomePending_noticed ((congrArg _ record).trans unsent) free none).trans ?_
    rw [State.noticeNow, record, State.flagged, Table.put_put]
  case owed =>
    obtain ⟨before, included, meets, unsent⟩ := becomes
    rw [before, State.judgePending_becomes (pending.mpr ⟨meets, included⟩)]
    exact State.becomePending_owed ((congrArg _ record).trans unsent) full

end Sys2Proof.Machine
end

section
/-! PROOFS. FAULT-CLEAR (R151) and FAULT-ENABLE (R153): the record of the link, and the notices that follow from it. -/

namespace Sys2Proof.Machine

open Sys2Proof

variable {s : State} {l : Link} {r : Request} {rest : List Request}

/-! ## Bodies (R170, R173) -/

theorem faultSetOf_bytes (mask : FaultSet) : faultSetOf (beBytes 2 mask.toNat) = some mask := by
  have small : beNat (beBytes 2 mask.toNat) = mask.toNat := beNat_beBytes_of_lt (w := 2) (by have := mask.isLt; omega)
  rw [faultSetOf, small, if_pos mask.isLt, BitVec.ofNat_toNat, BitVec.setWidth_eq]

theorem faultClearBodyOf_bytes (b : Byte) (mask : FaultSet) :
    faultClearBodyOf ([b, 0] ++ beBytes 2 mask.toNat) = some (b, mask, none) := by
  change (faultSetOf (beBytes 2 mask.toNat)).map (fun f => (b, f, none)) = _
  rw [faultSetOf_bytes, Option.map_some]

theorem faultClearBodyOf_stamp (b : Byte) (mask : FaultSet) {n : Nat} (stamp : n < 65536) :
    faultClearBodyOf ([b, 1] ++ beBytes 2 mask.toNat ++ beBytes 2 n) = some (b, mask, some n) := by
  change (faultSetOf (beBytes 2 mask.toNat)).map (fun f => (b, f, some (beNat (beBytes 2 n)))) = _
  rw [faultSetOf_bytes, Option.map_some, beNat_beBytes_of_lt (w := 2) stamp]

theorem faultEnableBodyOf_bytes (b : Byte) (mask : FaultSet) :
    faultEnableBodyOf (b :: beBytes 2 mask.toNat) = some (b, mask) := by
  change (faultSetOf (beBytes 2 mask.toNat)).map (b, ·) = _
  rw [faultSetOf_bytes, Option.map_some]

/-! ## FAULT-CLEAR (R151) -/

/-- Whether a link with these flags ceases to be pending. -/
abbrev State.ceasesWith (s : State) (l : Link) (flags : FaultSet) : Prop :=
  s.isPending l = true ∧ ¬ (flags &&& (s.faultRecord l).enabled ≠ 0#13 ∧ s.noticeMode.includes l = true)

theorem FaultSet.meets_without {f mask enabled : FaultSet} (meets : f.without mask &&& enabled ≠ 0#13) :
    f &&& enabled ≠ 0#13 := by
  refine fun none => meets (BitVec.eq_of_getElem_eq fun i bound => ?_)
  have bit := congrArg (fun x : FaultSet => x[i]) none
  simp only [FaultSet.without, BitVec.getElem_and, BitVec.getElem_zero, Bool.and_eq_false_iff] at bit ⊢
  exact bit.imp_left .inl

theorem State.isPending_recorded (x : FaultRecord) : (s.recorded l x).isPending l = true ↔
    x.flags &&& x.enabled ≠ 0#13 ∧ s.noticeMode.includes l = true := by
  have record : (s.recorded l x).faultRecord l = x := Table.look_put_same ..
  rw [State.isPending_iff, record]

theorem State.ceasePending_recorded (x : FaultRecord) : (s.recorded l x).ceasePending l =
    { s.recorded l { x with noticeSent := false } with owed := s.owed.filter fun m => decide (m ≠ l) } := by
  simp [State.ceasePending, State.onFaults, State.setFaults, State.faultRecord, Table.put_put]

theorem State.clearFaults_ceases (mask : FaultSet) (ceases : s.ceasesWith l ((s.faultRecord l).flags.without mask)) :
    s.clearFaults l mask = { s.recorded l { (s.faultRecord l).clear mask with noticeSent := false } with
      owed := s.owed.filter fun m => decide (m ≠ l) } := by
  obtain ⟨before, after⟩ := ceases
  have now : (s.recorded l ((s.faultRecord l).clear mask)).isPending l = false :=
    Bool.eq_false_iff.mpr ((State.isPending_recorded _).not.mpr after)
  rw [← State.ceasePending_recorded, ← State.judgePending_ceases now, State.clearFaults, before]
  rfl

theorem State.clearFaults_stays (mask : FaultSet) (stays : ¬ s.ceasesWith l ((s.faultRecord l).flags.without mask)) :
    s.clearFaults l mask = s.recorded l ((s.faultRecord l).clear mask) := by
  refine State.judgePending_unmoved (s := s.recorded l ((s.faultRecord l).clear mask)) ?_
  rw [Bool.eq_iff_iff, State.isPending_recorded]
  refine ⟨fun ⟨meets, included⟩ => State.isPending_iff.mpr ⟨FaultSet.meets_without meets, included⟩, fun before => ?_⟩
  by_contra after
  exact stays ⟨before, after⟩

/-- The flags of the mask removed, and the mark and the owed notice of a link that ceases to be pending (R147, R151). -/
theorem State.clearFaults_eq (s : State) (l : Link) (mask : FaultSet) :
    s.clearFaults l mask = { s.recorded l { (s.faultRecord l).clear mask with
        noticeSent := if s.ceasesWith l ((s.faultRecord l).flags.without mask) then false
          else (s.faultRecord l).noticeSent } with
      owed := if s.ceasesWith l ((s.faultRecord l).flags.without mask) then s.owed.filter fun m => decide (m ≠ l)
        else s.owed } := by
  by_cases ceases : s.ceasesWith l ((s.faultRecord l).flags.without mask)
  · rw [if_pos ceases, if_pos ceases, State.clearFaults_ceases mask ceases]
  · rw [if_neg ceases, if_neg ceases, State.clearFaults_stays mask ceases]
    rfl

/-- The answer gives the flags left and the stamp, which stays (R151, R175). -/
theorem State.clearFaults_fields (s : State) (l : Link) (mask : FaultSet) : (s.clearFaults l mask).clearFields l =
    byteOf l.val :: beBytes 2 ((s.faultRecord l).flags.without mask).toNat ++ beBytes 2 (s.faultRecord l).stamp := by
  have record : (s.clearFaults l mask).faultRecord l = { (s.faultRecord l).clear mask with
      noticeSent := if s.ceasesWith l ((s.faultRecord l).flags.without mask) then false
        else (s.faultRecord l).noticeSent } := by
    rw [State.clearFaults_eq]
    exact Table.look_put_same ..
  rw [State.clearFields, record]
  rfl

theorem takeFaultClear_attached {mask : FaultSet} {expected : Option Nat}
    (parsed : faultClearBodyOf r.body = some (byteOf l.val, mask, expected)) (attached : s.entry l ≠ none) :
    takeFaultClear r s = s.faultClear r l mask expected := by
  obtain ⟨e, entry⟩ := Option.ne_none_iff_exists'.mp attached
  simp only [takeFaultClear, parsed, State.attachedLink_byteOf entry]

/-! ## FAULT-ENABLE (R153) -/

theorem takeFaultEnable_attached {mask : FaultSet} (parsed : faultEnableBodyOf r.body = some (byteOf l.val, mask))
    (attached : s.entry l ≠ none) : takeFaultEnable r s = (s.enableFaults l mask).reply r .ok
      (byteOf l.val :: faultSetBytes mask ++ [bitByte ((s.enableFaults l mask).isPending l)]) := by
  obtain ⟨e, entry⟩ := Option.ne_none_iff_exists'.mp attached
  simp only [takeFaultEnable, parsed, State.attachedLink_byteOf entry]

/-- A link's mask replaced. -/
abbrev State.enabledWith (s : State) (l : Link) (mask : FaultSet) : State :=
  s.recorded l { s.faultRecord l with enabled := mask }

theorem State.enableFaults_eq (s : State) (l : Link) (mask : FaultSet) :
    s.enableFaults l mask = (s.enabledWith l mask).judgePending l (s.isPending l) := rfl

/-- The pending bit of the answer is the link's state after the change (R153, R175). -/
theorem State.enableFaults_isPending (s : State) (l : Link) (mask : FaultSet) :
    (s.enableFaults l mask).isPending l = (s.enabledWith l mask).isPending l :=
  State.judgePending_isPending ..

section Enable

variable {mask : FaultSet} (takes : s.Takes r rest) (kind : r.kind = 0x42) (attached : s.entry l ≠ none)
  (body : r.body = byteOf l.val :: beBytes 2 mask.toNat)

include takes kind attached body

/-- FAULT-ENABLE taken: the link is judged with its new mask, and the answer tells whether it is pending (R153). -/
theorem exec_faultEnable {before now : Bool} (was : s.isPending l = before)
    (is : (State.enabledWith { s with requests := rest } l mask).isPending l = now) : exec .faultEnable s =
      .next (((State.enabledWith { s with requests := rest } l mask).judgePending l before).place
        (answerOf r ([0x00, byteOf l.val] ++ beBytes 2 mask.toNat ++ [if now then 1 else 0]))) := by
  have parsed : faultEnableBodyOf r.body = some (byteOf l.val, mask) := body ▸ faultEnableBodyOf_bytes _ mask
  have was : State.isPending { s with requests := rest } l = before := was
  refine (takes_next (f := takeFaultEnable) takes kind).trans ?_
  rw [takeFaultEnable_attached (s := { s with requests := rest }) parsed attached, State.enableFaults_isPending, is,
    State.enableFaults_eq, was]
  rfl

end Enable

/-- Settles O42: the link is judged after its flags or its mask have changed. -/
theorem faultsClearedAndEnabled : Obligations.FaultsClearedAndEnabled := by
  unfold Obligations.FaultsClearedAndEnabled
  refine ⟨fun s r rest l mask expected takes kind attached body => ?clear,
    fun s r rest l mask takes kind attached body => ?enable⟩
  case clear =>
    intro x flags ceases
    have parsed : faultClearBodyOf r.body = some (byteOf l.val, mask, expected) := by
      rcases body with ⟨rfl, body⟩ | ⟨n, stamp, rfl, body⟩
      · rw [body, faultClearBodyOf_bytes]
      · rw [body, faultClearBodyOf_stamp _ mask stamp]
    have taken : exec .faultClear s = .next (State.faultClear { s with requests := rest } r l mask expected) :=
      (takes_next (f := takeFaultClear) takes kind).trans
        (by rw [takeFaultClear_attached (s := { s with requests := rest }) parsed attached])
    refine ⟨fun ⟨n, given, differs⟩ => taken.trans ?changed, fun same => taken.trans ?cleared⟩
    case changed =>
      have changed : expected.any (fun n => decide (n ≠ x.stamp)) = true := by simp [given, differs]
      exact congrArg Host.Outcome.next (if_pos changed)
    case cleared =>
      have unchanged : ¬ expected.any (fun n => decide (n ≠ x.stamp)) = true := by
        simpa [Option.any_eq_true] using same
      refine (congrArg Host.Outcome.next (if_neg unchanged)).trans ?_
      rw [State.clearFaults_fields, State.clearFaults_eq]
      rfl
  case enable =>
    intro x after reply
    have pending : (State.enabledWith { s with requests := rest } l mask).isPending l = true ↔ after :=
      State.isPending_recorded _
    have record : (State.enabledWith { s with requests := rest } l mask).faultRecord l = { x with enabled := mask } :=
      Table.look_put_same ..
    refine ⟨fun before becomes => ?stays, fun before ceases => ?silent, fun before ceases => ?ceased,
      fun before becomes unsent free none => ?noticed, fun before becomes unsent full =>
        ⟨joinOwed l s.owed, ?owed, joinOwed_adds l s.owed⟩⟩
    case stays =>
      have now := pending.mpr becomes
      rw [exec_faultEnable takes kind attached body before now, State.judgePending_unmoved now]
      rfl
    case silent =>
      have now := Bool.eq_false_iff.mpr (pending.not.mpr ceases)
      rw [exec_faultEnable takes kind attached body before now, State.judgePending_unmoved now]
      rfl
    case ceased =>
      have now := Bool.eq_false_iff.mpr (pending.not.mpr ceases)
      rw [exec_faultEnable takes kind attached body before now, State.judgePending_ceases now,
        State.ceasePending_recorded]
      rfl
    case noticed =>
      have now := pending.mpr becomes
      rw [exec_faultEnable takes kind attached body before now, State.judgePending_becomes now,
        State.becomePending_noticed ((congrArg _ record).trans unsent) free none, State.noticeNow, record,
        Table.put_put, State.place, List.append_assoc]
      rfl
    case owed =>
      have now := pending.mpr becomes
      rw [exec_faultEnable takes kind attached body before now, State.judgePending_becomes now,
        State.becomePending_owed ((congrArg _ record).trans unsent) full]
      rfl

end Sys2Proof.Machine
end

section
/-! PROOFS. COUNTER-SET (R154), LOG-READ (R156), and the read transaction with the slot its end frees (R144, R145, R146,
R157, R163, R177). -/

namespace Sys2Proof.Machine

open Sys2Proof

variable {s : State} {l : Link} {r : Request} {rest : List Request}

/-! ## COUNTER-SET (R154) -/

theorem faultKindOf_code (k : FaultKind) : faultKindOf (byteOf k.code) = some k := by
  cases k <;> rfl

/-- The body of COUNTER-SET as it is written (R173). -/
theorem counterSetBodyOf_bytes (l : Byte) (second zero : Bool) (source : Option FaultKind) :
    counterSetBodyOf ([l, if second then 1 else 0,
        byteOf ((if source = none then 0 else 1) + (if zero then 2 else 0))] ++
      (match source with | none => [] | some k => [byteOf k.code])) =
    some { link := l, second := second, source := source, zero := zero } := by
  cases source with
  | none => cases second <;> cases zero <;> rfl
  | some k =>
    have formed : ∀ x : CounterSetBody, x.source = some k →
        (faultKindOf (byteOf k.code)).map (fun kind => { x with source := some kind }) = some x := by
      rintro ⟨_, _, _, _⟩ rfl
      rw [faultKindOf_code, Option.map_some]
    cases second <;> cases zero <;> exact formed ⟨l, _, some k, _⟩ rfl

theorem takeCounterSet_attached {b : CounterSetBody} (parsed : counterSetBodyOf r.body = some b)
    (link : b.link = byteOf l.val) (attached : s.entry l ≠ none) : takeCounterSet r s = s.counterSet r l b := by
  obtain ⟨e, entry⟩ := Option.ne_none_iff_exists'.mp attached
  simp only [takeCounterSet, parsed, link, State.attachedLink_byteOf entry]

/-- Settles O43: the body names the counter, and its record alone is written. -/
theorem counterSetTaken : Obligations.CounterSetTaken := by
  unfold Obligations.CounterSetTaken
  intro s r rest l second zero source takes kind attached body x before after
  have parsed : counterSetBodyOf r.body = some ⟨byteOf l.val, second, source, zero⟩ :=
    body ▸ counterSetBodyOf_bytes _ second zero source
  refine (takes_next (f := takeCounterSet) takes kind).trans ?_
  rw [takeCounterSet_attached (s := { s with requests := rest }) parsed rfl attached]
  cases second <;> cases source <;> rfl

/-! ## LOG-READ (R156) -/

theorem optionBytes_eq (w : Nat) (o : Option Nat) :
    optionBytes w o = match o with | none => [] | some v => beBytes w v := by
  cases o <;> rfl

/-- A log entry as its reply gives it (R175). -/
theorem logFields_eq (x : LogEntry) : logFields x = beBytes 4 x.tick ++ [byteOf x.link.val, byteOf x.kind.code,
      byteOf ((if x.epoch = none then 0 else 1) + (if x.sequence = none then 0 else 2))] ++
    (match x.epoch with | none => [] | some v => beBytes 1 v) ++
    (match x.sequence with | none => [] | some v => beBytes 4 v) := by
  simp only [logFields, bitsByte_eq, ite_isSome, optionBytes_eq, Bool.false_eq_true, if_false, Nat.add_zero]
  rfl

/-- Settles O45: the entries are taken from the front of the log and answered. -/
theorem logReadTaken : Obligations.LogReadTaken := by
  unfold Obligations.LogReadTaken
  intro s r rest n takes kind positive within body entries bytes
  have parsed : logReadBodyOf r.body = some n := by
    have number : (byteOf n).toNat = n := by simp [byteOf]; omega
    rw [body, logReadBodyOf, number, if_pos ⟨positive, within⟩]
  have fields : bytes = logFields := funext fun x => (logFields_eq x).symm
  refine ⟨List.length_take, (takes_next (f := takeLogRead) takes kind).trans ?_⟩
  rw [fields, takeLogRead, parsed]
  rfl

/-! ## The read transaction (R157, R163) -/

theorem exec_readLeadByte (operating : s.operating = true) :
    exec .readLeadByte s = .next { s with reading := some s.chooseFrame } :=
  act_next (f := fun s => s.beginTransaction readLead) operating

theorem exec_readEnd {n : Nat} (operating : s.operating = true) : exec (.readEnd n) s = .next (s.endRead n) :=
  act_next (f := fun s => s.endRead n) operating

theorem State.endRead_idle {n : Nat} (idle : s.reading = none) : s.endRead n = s := by
  simp only [State.endRead, idle]

theorem State.endRead_part {n : Nat} {x : Reading} (reading : s.reading = some x)
    (part : x.isHead = false ∨ n < x.bytes.length) : s.endRead n = { s with reading := none } := by
  have part : ¬ (x.isHead && decide (x.bytes.length ≤ n)) = true := by
    rcases part with other | short
    · simp [other]
    · simp [short]
  simp only [State.endRead, reading, if_neg part]

theorem State.endRead_whole {n : Nat} {x : Reading} (reading : s.reading = some x) (head : x.isHead = true)
    (whole : x.bytes.length ≤ n) : s.endRead n = State.removeHead { s with reading := none } := by
  simp [State.endRead, reading, head, whole]

theorem State.removeHead_reply {f : OutFrame} {frames : List OutFrame} (output : s.output = f :: frames)
    (reply : f.share = .requestOwned) : s.removeHead = { s with output := frames } := by
  simp [State.removeHead, output, OutFrame.isUnsolicited, reply]

theorem State.removeHead_unsolicited {f : OutFrame} {frames : List OutFrame} (output : s.output = f :: frames)
    (unsolicited : f.share = .unsolicited) : s.removeHead = State.serveFreed { s with output := frames } := by
  simp [State.removeHead, output, OutFrame.isUnsolicited, unsolicited]

/-- With one slot free and no control request due, the lowest owed link takes it (R145). -/
theorem State.serveFreed_lowest {owed : List Link} (one : s.owed = l :: owed) (quiet : s.Quiet)
    (single : s.unsolicitedInUse = 15) : s.serveFreed = s.noticed l owed := by
  have full : (s.noticed l owed).Settled := .inr (by rw [State.noticed_inUse, single])
  rw [State.serveFreed_quiet quiet.dueClaims, State.serveOwed_step one (by omega), full.serveOwed]

/-- Settles O8: the frame is chosen at the lead byte, and leaves at an end that has shifted all of it out. -/
theorem readTransactions : Obligations.ReadTransactions := by
  unfold Obligations.ReadTransactions
  refine ⟨fun s operating empty => ?empty, fun s f rest operating output => ?head, fun s lead other => ?lead,
    fun s n operating idle => ?idle, fun s n x operating reading part => ?part,
    fun s n x f rest operating reading head whole output kept => ?kept,
    fun s n x f rest operating reading head whole output unsolicited => ?freed,
    fun s n x f rest l owed operating reading head whole output unsolicited lowest quiet full => ?noticed⟩
  case empty =>
    rw [exec_readLeadByte operating, State.chooseFrame, empty]
    rfl
  case head =>
    rw [exec_readLeadByte operating, State.chooseFrame, output]
    rfl
  case lead =>
    rw [State.beginTransaction, transactionOf, if_neg (show ¬ lead = readLead from other)]
    by_cases write : lead = writeLead
    · rw [if_pos write]
    · rw [if_neg write]
  case idle => rw [exec_readEnd operating, State.endRead_idle idle]
  case part => rw [exec_readEnd operating, State.endRead_part reading part]
  case kept =>
    rw [exec_readEnd operating, State.endRead_whole reading head whole]
    cases share : f.share with
    | requestOwned => rw [State.removeHead_reply (s := { s with reading := none }) output share]
    | unsolicited =>
      have unowed : s.owed = [] := kept.resolve_left (by simp [share])
      rw [State.removeHead_unsolicited (s := { s with reading := none }) output share]
      exact congrArg _ (State.serveFreed_nil unowed)
  case freed =>
    rw [exec_readEnd operating, State.endRead_whole reading head whole,
      State.removeHead_unsolicited (s := { s with reading := none }) output unsolicited]
  case noticed =>
    have freed : State.unsolicitedInUse { s with reading := none, output := rest } = 15 := by
      have head : f.isUnsolicited = true := OutFrame.isUnsolicited_of_unsolicited unsolicited
      rw [State.unsolicitedInUse, output, List.countP_cons, if_pos head] at full
      have left : rest.countP OutFrame.isUnsolicited + s.controlJobs = 15 := by omega
      exact left
    rw [exec_readEnd operating, State.endRead_whole reading head whole,
      State.removeHead_unsolicited (s := { s with reading := none }) output unsolicited,
      State.serveFreed_lowest (s := { s with reading := none, output := rest }) lowest quiet freed]
    rfl

end Sys2Proof.Machine
end

section
/-! PROOFS. NOTICE-MODE (R148, R149): the links are judged lowest first, so that those that join are noticed while slots
are free and owed their NOTICE from then on. -/

namespace Sys2Proof.Machine

open Sys2Proof

variable {before s t u v : State} {l m : Link} {ls : List Link} {r : Request} {rest : List Request}

/-! ## Links judged in order -/

/-- The links of a list that become pending, in its order. -/
def State.joining (before s : State) (ls : List Link) : List Link :=
  ls.filter fun m => !before.isPending m && s.isPending m

/-- The links that find a slot as they become pending (R143). -/
def State.noticing (before s : State) (ls : List Link) : List Link :=
  (before.joining s ls).take (16 - s.unsolicitedInUse)

theorem State.mem_joining : m ∈ before.joining s ls ↔ m ∈ ls ∧ before.isPending m = false ∧ s.isPending m = true := by
  simp [State.joining]

theorem State.joining_of_mem_noticing (h : m ∈ before.noticing s ls) :
    m ∈ ls ∧ before.isPending m = false ∧ s.isPending m = true :=
  State.mem_joining.mp (List.mem_of_mem_take h)

/-- From `s` to `t` each link of a list has been judged: the links that join are noticed while slots are free, and the
links that cease to be pending lose their mark; nothing but the records, the owed set and the output has moved
(R149). -/
structure State.Rejudges (before s : State) (ls : List Link) (t : State) : Prop where
  frame : t = { s with faults := t.faults, owed := t.owed, output := t.output }
  output : t.output = s.output ++ (before.noticing s ls).map s.noticeNow
  record : ∀ m, t.faultRecord m = { s.faultRecord m with
    noticeSent := if m ∈ ls ∧ before.isPending m = true ∧ s.isPending m = false then false
      else if m ∈ before.noticing s ls then true else (s.faultRecord m).noticeSent }

theorem State.Rejudges.nil (before s : State) : State.Rejudges before s [] s :=
  ⟨rfl, by simp [State.noticing, State.joining], fun m => by simp [State.noticing, State.joining]⟩

/-- What the judgement of a link that is not noticed does: the mark is cleared where the link ceases to be pending. -/
structure State.Unnoticed (before s : State) (l : Link) (t : State) : Prop where
  frame : t = { s with faults := t.faults, owed := t.owed }
  record : s.Remarked l
    (if before.isPending l = true ∧ s.isPending l = false then false else (s.faultRecord l).noticeSent) t
  full : before.isPending l = false → s.isPending l = true → 16 ≤ s.unsolicitedInUse

/-- One link judged: it is noticed where it joins and a slot is free, and else it is not (R143, R147). -/
theorem State.judgePending_cases (before : State) (settled : s.Settled)
    (unsent : before.isPending l = false → (s.faultRecord l).noticeSent = false) :
    (before.isPending l = false ∧ s.isPending l = true ∧ s.unsolicitedInUse < 16 ∧
      s.judgePending l (before.isPending l) = s.noticed l s.owed) ∨
    State.Unnoticed before s l (s.judgePending l (before.isPending l)) := by
  cases was : before.isPending l <;> cases now : s.isPending l
  case false.false | true.true =>
    rw [State.judgePending_unmoved now]
    exact .inr ⟨rfl, by simpa [was, now] using State.remarked_of_faults rfl l, by simp [was, now]⟩
  case true.false =>
    rw [State.judgePending_ceases now]
    exact .inr ⟨rfl, by simpa [was, now] using s.ceasePending_remarked l, by simp [was]⟩
  case false.true =>
    rw [State.judgePending_becomes now]
    by_cases free : s.unsolicitedInUse < 16
    · have unowed : s.owed = [] := settled.resolve_right (Nat.not_le.mpr free)
      exact .inl ⟨rfl, rfl, free, State.becomePending_noticed (unsent was) free unowed⟩
    · have full : 16 ≤ s.unsolicitedInUse := Nat.le_of_not_lt free
      rw [State.becomePending_owed (unsent was) (.inl full)]
      have marked := State.remarked_of_faults (s := s) (t := { s with owed := joinOwed l s.owed }) rfl l
      exact .inr ⟨rfl, by simpa [was, now] using marked, fun _ _ => full⟩

theorem State.Remarked.noticeNow {sent : Bool} (h : s.Remarked l sent t) : t.noticeNow = s.noticeNow := by
  funext m
  rw [State.noticeNow, h m]
  rfl

theorem State.joining_congr (same : ∀ m, t.isPending m = s.isPending m) (ls : List Link) :
    before.joining t ls = before.joining s ls := by
  simp only [State.joining, same]

theorem State.Rejudges.cons_noticed (was : before.isPending l = false) (now : s.isPending l = true)
    (free : s.unsolicitedInUse < 16) (new : l ∉ ls) (h : State.Rejudges before (s.noticed l s.owed) ls t) :
    State.Rejudges before s (l :: ls) t := by
  have marked := s.noticed_remarked l s.owed
  have pending : ∀ m, (s.noticed l s.owed).isPending m = s.isPending m := marked.isPending rfl
  have noticing : before.noticing s (l :: ls) = l :: before.noticing (s.noticed l s.owed) ls := by
    have joins : before.joining s (l :: ls) = l :: before.joining s ls := List.filter_cons_of_pos (by simp [was, now])
    have slots : 16 - s.unsolicitedInUse = 16 - (s.noticed l s.owed).unsolicitedInUse + 1 := by
      rw [State.noticed_inUse]
      omega
    rw [State.noticing, joins, slots, List.take_succ_cons, State.noticing, State.joining_congr pending]
  refine ⟨h.frame, ?_, fun m => ?_⟩
  · have output : (s.noticed l s.owed).output = s.output ++ [s.noticeNow l] := rfl
    rw [h.output, noticing, marked.noticeNow, output, List.append_assoc]
    rfl
  · rw [h.record, marked m, pending, noticing]
    by_cases here : m = l
    · have unnoticed : l ∉ before.noticing (s.noticed l s.owed) ls := fun member =>
        new (State.joining_of_mem_noticing member).1
      simp [here, was, unnoticed]
    · simp [here]

theorem State.Rejudges.cons_unnoticed (judged : State.Unnoticed before s l u) (new : l ∉ ls)
    (h : State.Rejudges before u ls t) : State.Rejudges before s (l :: ls) t := by
  have mode : u.noticeMode = s.noticeMode := by rw [judged.frame]
  have inUse : u.unsolicitedInUse = s.unsolicitedInUse := by
    rw [judged.frame]
    rfl
  have output : u.output = s.output := by rw [judged.frame]
  have pending : ∀ m, u.isPending m = s.isPending m := judged.record.isPending mode
  have noticing : before.noticing s (l :: ls) = before.noticing u ls := by
    rw [State.noticing, State.noticing, inUse, State.joining_congr pending]
    by_cases joins : before.isPending l = false ∧ s.isPending l = true
    · rw [Nat.sub_eq_zero_of_le (judged.full joins.1 joins.2), List.take_zero, List.take_zero]
    · rw [State.joining, List.filter_cons_of_neg (by simpa using joins)]
      rfl
  refine ⟨?_, ?_, fun m => ?_⟩
  · refine h.frame.trans ?_
    rw [judged.frame]
  · rw [h.output, noticing, judged.record.noticeNow, output]
  · rw [h.record, judged.record m, pending, noticing]
    by_cases here : m = l
    · have unnoticed : l ∉ before.noticing u ls := fun member => new (State.joining_of_mem_noticing member).1
      simp [here, new, unnoticed]
    · simp [here]

/-- Links judged one by one, where those that join have no mark yet. -/
theorem judgeLinks_rejudges (settled : s.Settled) (once : ls.Nodup)
    (unsent : ∀ m ∈ ls, before.isPending m = false → (s.faultRecord m).noticeSent = false) :
    State.Rejudges before s ls (judgeLinks before ls s) := by
  induction ls generalizing s with
  | nil => exact .nil before s
  | cons l rest ih =>
    obtain ⟨new, once⟩ := List.nodup_cons.mp once
    obtain ⟨here, others⟩ := List.forall_mem_cons.mp unsent
    have later : ∀ {sent : Bool}, s.Remarked l sent (s.judgePending l (before.isPending l)) →
        State.Rejudges before (s.judgePending l (before.isPending l)) rest (judgeLinks before (l :: rest) s) :=
      fun marked => ih (settled.judgePending l _) once fun m member was => by
        rw [marked m, if_neg (ne_of_mem_of_not_mem member new)]
        exact others m member was
    rcases State.judgePending_cases before settled here with ⟨was, now, free, noticed⟩ | judged
    · exact .cons_noticed was now free new (noticed ▸ later (noticed ▸ s.noticed_remarked l s.owed))
    · exact .cons_unnoticed judged new (later judged.record)

/-! ## NOTICE-MODE (R149) -/

/-- A link is owed its NOTICE exactly when it is pending and has no mark (R145). -/
theorem State.Told.mem_owed (h : s.Told) :
    m ∈ s.owed ↔ s.isPending m = true ∧ (s.faultRecord m).noticeSent = false := by
  rw [h.marked]
  refine ⟨fun owed => ⟨.inr owed, h.once m owed⟩, fun ⟨told, unsent⟩ => told.resolve_left (by simp [unsent])⟩

/-- A notice mode as it is written (R170, R173). -/
theorem takeNoticeMode_eq (mode : NoticeMode) (body : r.body = mode.bytes) :
    takeNoticeMode r s = (s.setMode mode).reply r .ok mode.bytes := by
  cases mode with
  | one l =>
    have parsed : noticeModeBodyOf r.body = some (.one (byteOf l.val)) := by rw [body]; rfl
    simp only [takeNoticeMode, parsed, numberOf_byteOf]
  | all | none | low | high =>
    rw [takeNoticeMode, body]
    rfl

theorem mem_drop_iff_of_nodup {α : Type} {xs : List α} (once : xs.Nodup) (n : Nat) {x : α} :
    x ∈ xs.drop n ↔ x ∈ xs ∧ x ∉ xs.take n := by
  have apart := List.disjoint_take_drop once (le_refl n)
  have parts : x ∈ xs ↔ x ∈ xs.take n ∨ x ∈ xs.drop n := by rw [← List.mem_append, List.take_append_drop]
  rw [parts]
  exact ⟨fun later => ⟨.inr later, fun early => apart early later⟩, fun ⟨both, late⟩ => both.resolve_left late⟩

/-- A pending link stays pending exactly where the new mode includes it (R143, R148). -/
theorem State.isPending_mode (was : s.isPending m = true) (mode : NoticeMode) :
    State.isPending { s with noticeMode := mode } m = mode.includes m := by
  have meets : (s.faultRecord m).meets = true := (Bool.and_eq_true_iff.mp was).1
  exact (congrArg (· && mode.includes m) meets).trans (Bool.true_and _)

section Mode

variable {mode : NoticeMode} (sound : s.NoticesSound)

include sound

/-- The links of the table are judged under the new mode (R149). -/
theorem State.setMode_rejudges (mode : NoticeMode) :
    State.Rejudges s { s with noticeMode := mode } (List.finRange 64) (s.setMode mode) := by
  refine judgeLinks_rejudges (s := { s with noticeMode := mode }) sound.settled (List.nodup_finRange 64)
    fun m _ was => ?_
  have untold := (sound.told.marked m).not.mp (by simp [was])
  exact Bool.eq_false_iff.mpr (not_or.mp untold).1

/-- Links that are excluded lose their mark, and links that join have theirs while slots are free (R149). -/
theorem State.setMode_faultRecord (mode : NoticeMode) (m : Link) :
    (s.setMode mode).faultRecord m = { s.faultRecord m with
      noticeSent := if s.isPending m = true ∧ mode.includes m = false then false
        else if m ∈ s.noticing { s with noticeMode := mode } (List.finRange 64) then true
        else (s.faultRecord m).noticeSent } := by
  have ceases : (m ∈ List.finRange 64 ∧ s.isPending m = true ∧
      State.isPending { s with noticeMode := mode } m = false) ↔ s.isPending m = true ∧ mode.includes m = false := by
    refine (and_iff_right (List.mem_finRange m)).trans (and_congr_right fun was => ?_)
    rw [State.isPending_mode was]
  refine ((State.setMode_rejudges sound mode).record m).trans ?_
  simp only [ceases]
  rfl

/-- Owed are the links that were and stay included, and those that join and find no slot (R145, R149). -/
theorem State.mem_setMode_owed (mode : NoticeMode) : m ∈ (s.setMode mode).owed ↔
    m ∈ s.owed ∧ mode.includes m = true ∨
    m ∈ (s.joining { s with noticeMode := mode } (List.finRange 64)).drop (16 - s.unsolicitedInUse) := by
  have pending : (s.setMode mode).isPending m = State.isPending { s with noticeMode := mode } m :=
    judgeLinks_isPending s _ _ m
  have once : (s.joining { s with noticeMode := mode } (List.finRange 64)).Nodup := (List.nodup_finRange 64).filter _
  rw [(sound.setMode mode).told.mem_owed, pending, State.setMode_faultRecord sound,
    mem_drop_iff_of_nodup once, State.mem_joining, sound.told.mem_owed]
  change _ ↔ _ ∨ _ ∧ m ∉ s.noticing { s with noticeMode := mode } (List.finRange 64)
  cases was : s.isPending m with
  | true =>
    have unnoticed : m ∉ s.noticing { s with noticeMode := mode } (List.finRange 64) := fun member => by
      simpa [was] using (State.joining_of_mem_noticing member).2.1
    cases included : mode.includes m <;> simp [State.isPending_mode was, included, unnoticed]
  | false =>
    have unsent : (s.faultRecord m).noticeSent = false :=
      Bool.eq_false_iff.mpr (not_or.mp ((sound.told.marked m).not.mp (by simp [was]))).1
    simp [unsent]

end Mode

/-- Settles O44: the links are judged in order, and who is owed then follows from who is pending and noticed. -/
theorem noticeModeSet : Obligations.NoticeModeSet := by
  unfold Obligations.NoticeModeSet
  intro s r rest mode takes kind sound body ceases joining kept free
  have sound : State.NoticesSound { s with requests := rest } := sound.same rfl
  have body : r.body = mode.bytes := body.trans (by cases mode <;> rfl)
  have taken : exec .noticeMode s = .next ((State.setMode { s with requests := rest } mode).place
      (answerOf r (0x00 :: r.body))) := by
    refine (takes_next (f := takeNoticeMode) takes kind).trans ?_
    rw [takeNoticeMode_eq mode body, body]
    rfl
  have judged := State.setMode_rejudges sound mode
  have joins : State.joining { s with requests := rest } { s with requests := rest, noticeMode := mode }
      (List.finRange 64) = joining := by
    simp only [State.joining, joining, Bool.and_assoc]
    rfl
  have slots : free = 16 - s.unsolicitedInUse := by
    by_cases none : kept = []
    · exact if_pos none
    · have owed : s.owed ≠ [] := fun unowed => none (by simp [kept, unowed])
      have full : 16 ≤ s.unsolicitedInUse := sound.settled.resolve_left owed
      rw [Nat.sub_eq_zero_of_le full]
      exact if_neg none
  have noticing : State.noticing { s with requests := rest } { s with requests := rest, noticeMode := mode }
      (List.finRange 64) = joining.take free := by
    rw [State.noticing, joins, slots]
    rfl
  refine ⟨_, taken, ?frame, ?output, fun m => ?owed, (sound.setMode mode).told.rising, fun m => ?record⟩
  case frame =>
    rw [judged.frame]
    rfl
  case output =>
    rw [State.place_output, judged.output, noticing]
    rfl
  case owed =>
    have owed := State.mem_setMode_owed (m := m) sound mode
    rw [joins] at owed
    rw [slots]
    refine owed.trans (or_congr_left ?_)
    simp [kept]
  case record =>
    refine (State.setMode_faultRecord sound mode m).trans ?_
    rw [noticing]
    rfl

end Sys2Proof.Machine
end

section
/-! PROOFS. The frame in bytes (R159, R160, R172), the judgement of a written frame (R157, R160, R166), and what the
port shifts out and drives (R157, R158, R163). -/

namespace Sys2Proof.Machine

open Sys2Proof

variable {s : State} {r : Request} {bytes body : List Byte}

/-! ## The frame in bytes (R159, R172) -/

theorem frameBytes_length (tag kind : Byte) (body : List Byte) :
    (frameBytes tag kind body).length = (1 + body.length) + 6 := by
  simp only [frameBytes, frameCore, List.length_append, List.length_cons, List.length_nil, beBytes_length]
  omega

/-- The parts of a frame stand at these places (R159). -/
def frameOf (sync : Byte) (length : List Byte) (tag kind : Byte) (body check : List Byte) : List Byte :=
  sync :: (length ++ [tag, kind] ++ body) ++ check

/-- The bytes a frame is made of are put in these places. -/
theorem frameBytes_eq (tag kind : Byte) (body : List Byte) : frameBytes tag kind body =
    frameOf 0xC3 (beBytes 2 (1 + body.length)) tag kind body (beBytes 2 (crc16 (frameCore tag kind body)).toNat) := rfl

/-- Seven bytes or more have a place for every part of a frame. -/
theorem exists_frameOf (long : 7 ≤ bytes.length) : ∃ sync length tag kind body check,
    length.length = 2 ∧ check.length = 2 ∧ bytes = frameOf sync length tag kind body check := by
  match bytes, long with
  | sync :: x :: y :: tag :: kind :: tail, long =>
    have split := List.take_append_drop (tail.length - 2) tail
    refine ⟨sync, [x, y], tag, kind, tail.take (tail.length - 2), tail.drop (tail.length - 2), rfl, ?_, ?_⟩
    · simp only [List.length_cons] at long
      simp only [List.length_drop]
      omega
    · simp only [frameOf, List.cons_append, List.nil_append, split]

theorem long_of_parseFrame (parsed : parseFrame bytes = some r) : 7 ≤ bytes.length := by
  simp only [parseFrame, Option.ite_none_right_eq_some] at parsed
  omega

/-- The frame checks part by part (R160). -/
theorem parseFrame_frameOf {sync tag kind : Byte} {length check : List Byte} (two : length.length = 2)
    (checked : check.length = 2) : parseFrame (frameOf sync length tag kind body check) =
    if sync = 0xC3 ∧ beNat length = 1 + body.length ∧ body.length ≤ 1093 ∧
        (crc16 (length ++ [tag, kind] ++ body)).toNat = beNat check
      then some { tag := tag, kind := kind, body := body } else none := by
  obtain ⟨x, y, rfl⟩ := List.length_eq_two.mp two
  have size : (frameOf sync [x, y] tag kind body check).length = 1 + body.length + 6 := by
    simp [frameOf, checked]; omega
  have counted : field (frameOf sync [x, y] tag kind body check) 1 2 = [x, y] := rfl
  simp only [parseFrame, counted, size]
  by_cases whole : beNat [x, y] = 1 + body.length
  · have covered : field (frameOf sync [x, y] tag kind body check) 1 (1 + body.length + 3) =
        [x, y] ++ [tag, kind] ++ body :=
      field_of_split (a := [sync]) (c := check) rfl rfl (by simp; omega)
    have behind : field (frameOf sync [x, y] tag kind body check) (1 + body.length + 4) 2 = check :=
      field_of_split (a := sync :: ([x, y] ++ [tag, kind] ++ body)) (c := []) (by simp [frameOf])
        (by simp; omega) checked
    have inside : field (frameOf sync [x, y] tag kind body check) 5 (1 + body.length - 1) = body :=
      field_of_split (a := [sync, x, y, tag, kind]) (c := check) rfl rfl (by omega)
    rw [whole, covered, behind, inside]
    refine if_congr ⟨fun ⟨start, _, _, (small : 1 + body.length ≤ 1094), _, matching⟩ =>
        ⟨start, rfl, by omega, matching⟩,
      fun ⟨start, _, small, matching⟩ => ⟨start, by omega, by omega, ?_, rfl, matching⟩⟩ rfl rfl
    show 1 + body.length ≤ 1094
    omega
  · rw [if_neg fun checks => ?_, if_neg fun checks => ?_]
    · obtain ⟨_, counted, _⟩ := checks
      exact whole counted
    · obtain ⟨_, _, _, _, received, _⟩ := checks
      omega

/-- Bytes pass the frame checks exactly as the frame of the request they hold (R159, R160). -/
theorem parseFrame_eq_some_iff : parseFrame bytes = some r ↔ FrameHolds bytes r := by
  constructor
  · intro parsed
    obtain ⟨sync, length, tag, kind, body, check, two, checked, rfl⟩ := exists_frameOf (long_of_parseFrame parsed)
    rw [parseFrame_frameOf two checked, Option.ite_none_right_eq_some] at parsed
    obtain ⟨⟨rfl, counted, small, matching⟩, made⟩ := parsed
    cases made
    have written : beBytes 2 (1 + body.length) = length := by rw [← counted, ← two, beBytes_beNat]
    have core : frameCore tag kind body = length ++ [tag, kind] ++ body := by rw [frameCore, written]
    refine ⟨small, ?_⟩
    rw [frameBytes_eq, written, core, matching, ← checked, beBytes_beNat]
  · rintro ⟨small, rfl⟩
    rw [frameBytes_eq, parseFrame_frameOf (beBytes_length 2 _) (beBytes_length 2 _)]
    refine if_pos ⟨rfl, beNat_beBytes_of_lt (by omega), small, (beNat_beBytes_of_lt ?_).symm⟩
    exact (crc16 (frameCore r.tag r.kind r.body)).isLt

/-- Settles O7: the parts stand at fixed places, and the checks say that each is the one framing puts there. -/
theorem frameRoundTrip : Obligations.FrameRoundTrip := by
  unfold Obligations.FrameRoundTrip
  exact ⟨frameBytes_length, fun r small => parseFrame_eq_some_iff.mpr ⟨small, rfl⟩,
    fun bytes r => parseFrame_eq_some_iff.mp⟩

/-! ## The judgement of a frame (R160) -/

theorem exec_frameArrival (operating : s.operating = true) :
    exec (.frameArrival bytes) s = .next (s.endTransaction bytes) :=
  act_next (f := fun s => s.endTransaction bytes) operating

/-- The bytes behind the lead byte of a write are judged, where there are any (R157). -/
theorem State.endTransaction_write (delivered : bytes ≠ []) :
    s.endTransaction (0xA6 :: bytes) = s.judgeFrame bytes := by
  obtain ⟨b, rest, rfl⟩ := List.exists_cons_of_ne_nil delivered
  rfl

/-- A write that ends after its lead byte and a transaction with another lead byte deliver nothing (R157). -/
theorem State.endTransaction_idle {lead : Byte} (idle : lead ≠ 0xA6 ∨ bytes = []) :
    s.endTransaction (lead :: bytes) = s := by
  by_cases write : lead = writeLead
  · rw [write, idle.resolve_left (not_not_intro write)]
    rfl
  · by_cases read : lead = readLead
    · subst read
      rfl
    · simp only [State.endTransaction, transactionOf, if_neg write, if_neg read]

theorem State.judgeFrame_error (error : ∀ r, ¬ FrameHolds bytes r) :
    s.judgeFrame bytes = { s with frameErrors := min (s.frameErrors + 1) 65535 } := by
  have failed : parseFrame bytes = none :=
    Option.eq_none_iff_forall_ne_some.mpr fun r parsed => error r (parseFrame_eq_some_iff.mp parsed)
  simp only [State.judgeFrame, failed]

section Judged

variable (holds : FrameHolds bytes r)

include holds

theorem State.judgeFrame_restart (kind : r.kind = 0x03) : s.judgeFrame bytes = s.restart .commanded := by
  simp only [State.judgeFrame, parseFrame_eq_some_iff.mpr holds, if_pos kind]

theorem State.judgeFrame_room (kind : r.kind ≠ 0x03) : s.judgeFrame bytes =
    if s.ready then s.admitRequest r else { s with overruns := min (s.overruns + 1) 65535 } := by
  simp only [State.judgeFrame, parseFrame_eq_some_iff.mpr holds, if_neg kind]

end Judged

/-- Settles O6, by the lead byte, then the frame checks, the kind and the room. -/
theorem frameArrivalJudged : Obligations.FrameArrivalJudged := by
  unfold Obligations.FrameArrivalJudged
  refine ⟨fun s lead bytes operating idle => ?idle, fun s operating => exec_frameArrival operating,
    fun s bytes operating delivered => ?judged⟩
  case idle => rw [exec_frameArrival operating, State.endTransaction_idle idle]
  case judged =>
    rw [exec_frameArrival operating, State.endTransaction_write delivered]
    refine ⟨fun error => ?error, fun r holds => ⟨fun kind => ?restart, fun kind full => ?overrun,
      fun kind entry slot => ?admitted⟩⟩
    case error => rw [State.judgeFrame_error error]
    case restart =>
      obtain ⟨roots, choices, images, left⟩ := s.restart_eq
      exact ⟨roots, choices, images, by rw [State.judgeFrame_restart holds kind, left]⟩
    case overrun =>
      have room : ¬ s.ready = true := by rw [State.ready_iff]; omega
      rw [State.judgeFrame_room holds kind, if_neg room]
    case admitted =>
      have room : s.ready = true := s.ready_iff.mpr ⟨entry, slot⟩
      rw [State.judgeFrame_room holds kind, if_pos room, State.admitRequest]

/-! ## The outputs (R157, R158, R163) -/

/-- READY, OUT and FRESH are the bits 0, 1 and 2 of their byte (R172). -/
theorem bitsByte_bits (ready out fresh : Bool) :
    (bitsByte ready out fresh).getLsbD 0 = ready ∧ (bitsByte ready out fresh).getLsbD 1 = out ∧
      (bitsByte ready out fresh).getLsbD 2 = fresh ∧ (bitsByte ready out fresh).toNat < 8 := by
  revert ready out fresh
  decide

theorem State.attnLow_iff : s.attnLow = true ↔ s.output ≠ [] := by
  simp [State.attnLow]

/-- OUT stands as ATTN does (R158). -/
theorem State.statusByte_eq (operating : s.operating = true) : s.statusByte = bitsByte s.ready s.attnLow s.fresh :=
  if_pos operating

theorem State.dataOut_none (idle : s.reading = none) (i : Nat) : s.dataOut i = 0 := by
  simp only [State.dataOut, idle]

theorem State.dataOut_some {x : Reading} (reading : s.reading = some x) (i : Nat) : s.dataOut i = x.bytes.getD i 0 := by
  simp only [State.dataOut, reading, byteAt]

theorem State.beginTransaction_read : s.beginTransaction 0x59 = { s with reading := some s.chooseFrame } := rfl

theorem State.beginTransaction_reading {lead : Byte} (other : lead ≠ 0x59) :
    (s.beginTransaction lead).reading = none := by
  obtain ⟨-, -, begins, -⟩ := readTransactions
  rw [begins s lead other]

/-- Settles O9: the status byte by its bits, and the bytes of the frame chosen at the lead byte. -/
theorem portOutputs : Obligations.PortOutputs := by
  unfold Obligations.PortOutputs
  refine ⟨fun s operating => ?status, fun s i idle => State.dataOut_none idle i, fun s x i reading => ?byte,
    fun s lead i other => State.dataOut_none (State.beginTransaction_reading other) i, fun s operating => ?read⟩
  case status =>
    obtain ⟨ready, out, fresh, small⟩ := bitsByte_bits s.ready s.attnLow s.fresh
    rw [State.statusByte_eq operating, ready, out]
    exact ⟨s.ready_iff, State.attnLow_iff, State.attnLow_iff, fresh, small⟩
  case byte =>
    rw [State.dataOut_some reading]
    refine ⟨fun b byte => ?_, fun past => List.getD_eq_default _ _ past⟩
    rw [List.getD_eq_getElem?_getD, byte, Option.getD_some]
  case read =>
    refine ⟨_, exec_readLeadByte operating, State.beginTransaction_read.symm, fun i => ?_⟩
    rw [State.dataOut_some (s := { s with reading := some s.chooseFrame }) rfl, State.chooseFrame]
    refine ⟨fun empty => ?_, fun f rest output => ?_⟩
    · rw [empty]
      rfl
    · rw [output]
      rfl

end Sys2Proof.Machine
end

section
/-! PROOFS. The requests that are refused for their bodies or their kinds (R161, R171, R173, R174), HELLO (R164) and
STATUS (R165). -/

namespace Sys2Proof.Machine

open Sys2Proof

variable {s : State} {r : Request} {rest : List Request} {body list : List Byte}

/-! ## Bodies that are malformed (R171, R173) -/

theorem linkBodyOf_eq_none (malformed : body.length ≠ 1) : linkBodyOf body = none := by
  match body, malformed with
  | [], _ => rfl
  | [_], alone => exact absurd rfl alone
  | _ :: _ :: _, _ => rfl

theorem entryBodyOf_eq_none (malformed : body.length ≠ 1 ∨ 63 < (byteAt body 0).toNat) : entryBodyOf body = none := by
  match body, malformed with
  | [], _ => rfl
  | [_], malformed => exact numberOf_eq_none.mpr (malformed.resolve_left (not_not_intro rfl))
  | _ :: _ :: _, _ => rfl

theorem roleOf_eq_none {b : Byte} (other : 1 < b.toNat) : roleOf b = none := by
  rw [roleOf, if_neg, if_neg]
  · rintro rfl
    exact absurd other (by decide)
  · rintro rfl
    exact absurd other (by decide)

theorem rootLoadBodyOf_eq_none
    (malformed : body.length ≠ 70 ∨ 63 < (byteAt body 0).toNat ∨ 1 < (byteAt body 5).toNat) :
    rootLoadBodyOf body = none := by
  by_cases size : body.length = 70
  · rcases malformed with other | entry | role
    · exact absurd size other
    · simp only [rootLoadBodyOf, numberOf_eq_none.mpr entry, ite_self]
    · cases entry : numberOf (byteAt body 0) <;> simp only [rootLoadBodyOf, entry, roleOf_eq_none role, ite_self]
  · rw [rootLoadBodyOf, if_neg size]

theorem faultSetOf_eq_none {bytes : List Byte} (above : 8191 < beNat bytes) : faultSetOf bytes = none :=
  if_neg (Nat.not_lt.mpr above)

theorem encipherBodyOf_eq_none (malformed : body.length = 0 ∨ 1025 < body.length) : encipherBodyOf body = none := by
  match body, malformed with
  | [], _ => rfl
  | _ :: payload, malformed =>
    have long : ¬ payload.length ≤ 1024 := by
      simp only [List.length_cons] at malformed
      omega
    exact if_neg long

theorem decipherBodyOf_eq_none (malformed : body.length < 3 ∨ beNat (field body 1 2) ≠ body.length - 3) :
    decipherBodyOf body = none := by
  match body, malformed with
  | [], _ => rfl
  | [_], _ => rfl
  | [_, _], _ => rfl
  | _ :: h :: k :: record, malformed =>
    have other : beNat [h, k] ≠ record.length := malformed.resolve_left (by simp)
    exact if_neg other

theorem faultEnableBodyOf_eq_none (malformed : body.length ≠ 3 ∨ 8191 < beNat (field body 1 2)) :
    faultEnableBodyOf body = none := by
  match body, malformed with
  | [], _ => rfl
  | [_], _ => rfl
  | [_, _], _ => rfl
  | [_, m, k], malformed =>
    have above : 8191 < beNat [m, k] := malformed.resolve_left (not_not_intro rfl)
    rw [faultEnableBodyOf, faultSetOf_eq_none above, Option.map_none]
  | _ :: _ :: _ :: _ :: _, _ => rfl

theorem faultClearBodyOf_eq_none
    (malformed : ¬ (body.length = 4 ∧ byteAt body 1 = 0 ∨ body.length = 6 ∧ byteAt body 1 = 1) ∨
      8191 < beNat (field body 2 2)) : faultClearBodyOf body = none := by
  match body, malformed with
  | [], _ => rfl
  | [_], _ => rfl
  | [_, _], _ => rfl
  | [_, _, _], _ => rfl
  | [_, p, m, k], malformed =>
    by_cases plain : p = 0
    · have above : 8191 < beNat [m, k] := malformed.resolve_left (not_not_intro (.inl ⟨rfl, plain⟩))
      rw [faultClearBodyOf, faultSetOf_eq_none above, Option.map_none, ite_self]
    · exact if_neg plain
  | [_, _, _, _, _], _ => rfl
  | [_, p, m, k, h, j], malformed =>
    by_cases stamped : p = 1
    · have above : 8191 < beNat [m, k] := malformed.resolve_left (not_not_intro (.inr ⟨rfl, stamped⟩))
      rw [faultClearBodyOf, faultSetOf_eq_none above, Option.map_none, ite_self]
    · exact if_neg stamped
  | _ :: _ :: _ :: _ :: _ :: _ :: _ :: _, _ => rfl

theorem faultKindOf_eq_none {b : Byte} (above : 12 < b.toNat) : faultKindOf b = none :=
  List.getElem?_eq_none above

theorem counterSetBodyOf_eq_none
    (malformed : ¬ (body.length = 3 ∧ byteAt body 2 ∈ ([0, 2] : List Byte) ∨
        body.length = 4 ∧ byteAt body 2 ∈ ([1, 3] : List Byte) ∧ (byteAt body 3).toNat ≤ 12) ∨
      1 < (byteAt body 1).toNat) : counterSetBodyOf body = none := by
  match body, malformed with
  | [], _ => rfl
  | [_], _ => rfl
  | [_, _], _ => rfl
  | [_, c, p], malformed =>
    refine if_neg fun ⟨counter, presence⟩ => ?_
    rcases malformed with shape | above
    · exact shape (.inl ⟨rfl, by simpa [byteAt] using presence⟩)
    · exact absurd counter (Nat.not_le.mpr above)
  | [_, c, p, k], malformed =>
    by_cases shape : c.toNat ≤ 1 ∧ (p = 1 ∨ p = 3)
    · obtain ⟨counter, presence⟩ := shape
      have above : 12 < k.toNat := by
        by_contra kind
        refine (malformed.resolve_right (Nat.not_lt.mpr counter)) (.inr ⟨rfl, ?_, Nat.not_lt.mp kind⟩)
        simpa [byteAt] using presence
      rw [counterSetBodyOf, faultKindOf_eq_none above, Option.map_none, ite_self]
    · exact if_neg shape
  | _ :: _ :: _ :: _ :: _ :: _, _ => rfl

theorem noticeModeBodyOf_eq_none
    (malformed : ¬ (body.length = 1 ∧ (byteAt body 0).toNat ≤ 3 ∨ body.length = 2 ∧ byteAt body 0 = 4)) :
    noticeModeBodyOf body = none := by
  match body, malformed with
  | [], _ => rfl
  | [m], malformed =>
    have above : 3 < m.toNat := Nat.not_le.mp fun mode => malformed (.inl ⟨rfl, mode⟩)
    have other (n : Byte) (mode : n.toNat ≤ 3) : m ≠ n := by
      rintro rfl
      omega
    simp only [noticeModeBodyOf, other 0 (by decide), other 1 (by decide), other 2 (by decide), other 3 (by decide),
      if_false]
  | [m, _], malformed => exact if_neg fun one => malformed (.inr ⟨rfl, one⟩)
  | _ :: _ :: _ :: _, _ => rfl

theorem logReadBodyOf_eq_none (malformed : body.length ≠ 1 ∨ byteAt body 0 = 0 ∨ 8 < (byteAt body 0).toNat) :
    logReadBodyOf body = none := by
  match body, malformed with
  | [], _ => rfl
  | [n], malformed =>
    have outside : n = 0 ∨ 8 < n.toNat := malformed.resolve_left (not_not_intro rfl)
    refine if_neg fun ⟨positive, within⟩ => ?_
    rcases outside with rfl | above
    · exact absurd positive (by decide)
    · omega
  | _ :: _ :: _, _ => rfl

/-! ## Policy lists that are malformed (R174) -/

/-- Whole items that name no field, no setting of a field, or a field twice. -/
theorem policyListOf_items_eq_none {items : List PolicyItem} (fits : ∀ x ∈ items, x.1 < 256 ∧ x.2 < 4294967296)
    (bad : (∃ x ∈ items, x.1 = 0 ∨ 13 < x.1 ∨ 12 ≤ x.1 ∧ 1 < x.2) ∨ ¬ (items.map Prod.fst).Nodup) :
    policyListOf (items.flatMap policyItemBytes) = none := by
  refine policyListOf_malformed (policyItems_bytes fits) fun ⟨valid, once⟩ => ?_
  rcases bad with ⟨x, mem, bad⟩ | twice
  · obtain ⟨named, setting⟩ := policyItemValid_iff.mp (valid x mem)
    omega
  · exact twice once

theorem policyBodyOf_cons_eq_none {b : Byte} (bad : policyListOf list = none) : policyBodyOf (b :: list) = none := by
  rw [policyBodyOf, bad, Option.map_none]

theorem policyBodyOf_eq_none (malformed : body.length = 0 ∨ (body.length - 1) % 5 ≠ 0) : policyBodyOf body = none := by
  match body, malformed with
  | [], _ => rfl
  | _ :: list, malformed =>
    have ragged : list.length % 5 ≠ 0 := malformed.resolve_left (by simp)
    exact policyBodyOf_cons_eq_none (policyListOf_of_ragged ragged)

theorem attachBodyOf_cons_eq_none {b n : Byte} (bad : policyListOf list = none) :
    attachBodyOf (b :: n :: list) = none := by
  cases entry : numberOf n <;> simp only [attachBodyOf, entry, bad]

theorem attachBodyOf_eq_none
    (malformed : body.length < 2 ∨ 63 < (byteAt body 1).toNat ∨ (body.length - 2) % 5 ≠ 0) :
    attachBodyOf body = none := by
  match body, malformed with
  | [], _ => rfl
  | [_], _ => rfl
  | _ :: n :: list, malformed =>
    rcases malformed.resolve_left (by simp) with above | ragged
    · have entry : numberOf n = none := numberOf_eq_none.mpr above
      simp only [attachBodyOf, entry]
    · exact attachBodyOf_cons_eq_none (policyListOf_of_ragged ragged)

/-! ## The refusals -/

/-- A request taken and refused with BAD-FORM alone (R161, R171). -/
theorem takes_badForm {kind : Byte} {f : Request → State → State} (takes : s.Takes r rest) (is : r.kind = kind)
    (refused : f r { s with requests := rest } = State.reply { s with requests := rest } r .badForm []) :
    act (takeRequest kind f) s = .next (s.answered rest (answerOf r [0x10])) := by
  rw [takes_next takes is, refused]
  rfl

/-- A request whose body is a link number alone, taken with another body (R171). -/
theorem takes_onAttached_badForm {kind : Byte} {f : Request → Link → LinkEntry → State → State}
    (takes : s.Takes r rest) (is : r.kind = kind) (malformed : r.body.length ≠ 1) :
    act (takeRequest kind (onAttached f)) s = .next (s.answered rest (answerOf r [0x10])) :=
  takes_badForm takes is (by simp only [onAttached, linkBodyOf_eq_none malformed])

theorem takeUnknown_eq (requests : s.requests = r :: rest) (unknown : r.kind ∉ requestKinds) :
    s.takeUnknown = s.answered rest (replyOf r.tag 0x80 [0x1D, r.kind]) := by
  simp only [State.takeUnknown, requests, if_neg unknown]
  rfl

/-- Settles O12: no body that is malformed parses, and each command refuses a body that does not. -/
theorem bodiesAndKindsRefused : Obligations.BodiesAndKindsRefused := by
  unfold Obligations.BodiesAndKindsRefused
  refine ⟨fun s r rest ⟨operating, requests⟩ unknown => ?kinds, fun s r rest takes => ?bodies⟩
  case kinds =>
    rw [← takeUnknown_eq requests unknown]
    exact act_next operating
  case bodies =>
    intro refused badList
    have listed {list : List Byte} (bad : badList list) : policyListOf list = none := by
      rcases bad with unparsed | ⟨items, fits, rfl, bad⟩
      · exact unparsed
      · exact policyListOf_items_eq_none fits bad
    have attach (is : r.kind = 0x20) (bad : attachBodyOf r.body = none) : exec .attach s = refused :=
      takes_badForm takes is (by simp only [takeAttach, bad])
    have policy (is : r.kind = 0x22) (bad : policyBodyOf r.body = none) : exec .policy s = refused :=
      takes_badForm takes is (by simp only [takePolicy, bad])
    refine ⟨fun is bad => ?rootLoad, fun is bad => ?rootErase, fun is bad => ?rootRead,
      fun is bad => attach is (attachBodyOf_eq_none bad),
      fun b n list is body bad => attach is (body ▸ attachBodyOf_cons_eq_none (listed bad)),
      takes_onAttached_badForm takes, fun is bad => policy is (policyBodyOf_eq_none bad),
      fun b list is body bad => policy is (body ▸ policyBodyOf_cons_eq_none (listed bad)),
      fun is bad => ?linkRead, takes_onAttached_badForm takes, takes_onAttached_badForm takes,
      fun is bad => ?encipher, fun is bad => ?decipher, takes_onAttached_badForm takes, fun is bad => ?faultClear,
      fun is bad => ?faultEnable, fun is bad => ?counterSet, fun is bad => ?noticeMode, fun is bad => ?logRead⟩
    case rootLoad => exact takes_badForm takes is (by simp only [takeRootLoad, rootLoadBodyOf_eq_none bad])
    case rootErase => exact takes_badForm takes is (by simp only [takeRootErase, entryBodyOf_eq_none bad])
    case rootRead => exact takes_badForm takes is (by simp only [takeRootRead, entryBodyOf_eq_none bad])
    case linkRead => exact takes_badForm takes is (by simp only [takeLinkRead, linkBodyOf_eq_none bad])
    case encipher => exact takes_badForm takes is (by simp only [takeEncipher, encipherBodyOf_eq_none bad])
    case decipher => exact takes_badForm takes is (by simp only [takeDecipher, decipherBodyOf_eq_none bad])
    case faultClear => exact takes_badForm takes is (by simp only [takeFaultClear, faultClearBodyOf_eq_none bad])
    case faultEnable => exact takes_badForm takes is (by simp only [takeFaultEnable, faultEnableBodyOf_eq_none bad])
    case counterSet => exact takes_badForm takes is (by simp only [takeCounterSet, counterSetBodyOf_eq_none bad])
    case noticeMode => exact takes_badForm takes is (by simp only [takeNoticeMode, noticeModeBodyOf_eq_none bad])
    case logRead => exact takes_badForm takes is (by simp only [takeLogRead, logReadBodyOf_eq_none bad])

/-! ## HELLO (R164) and STATUS (R165) -/

/-- Settles O10: the fields as they stand, and an empty body alone is accepted. -/
theorem helloAnswered : Obligations.HelloAnswered := by
  unfold Obligations.HelloAnswered
  refine ⟨fun s r rest takes is empty => ?accepted, fun s r rest takes is filled => ?refused⟩
  case accepted =>
    have roots : s.occupiedRoots = (List.finRange 64).countP fun e => (s.root e).contents.isSome :=
      Table.count_eq _ _
    refine (takes_next (f := takeHello) takes is).trans ?_
    rw [← roots, takeHello, empty]
    simp only [State.helloFields]
    cases s.cause <;> rfl
  case refused =>
    exact takes_badForm (f := takeHello) takes is (by simp [takeHello, filled])

/-- A request at the head of the queue holds its own slot until it is answered (R161, R165). -/
theorem State.requestOwnedInUse_cons (requests : s.requests = r :: rest) :
    s.requestOwnedInUse = State.requestOwnedInUse { s with requests := rest } + 1 := by
  simp only [State.requestOwnedInUse, State.hostJobs, requests, List.length_cons]
  omega

/-- Settles O11: the counts as they stand, the request's own slot among them. -/
theorem statusAnswered : Obligations.StatusAnswered := by
  unfold Obligations.StatusAnswered
  refine ⟨fun s r rest takes is empty => ?accepted, fun s r rest takes is filled => ?refused⟩
  case accepted =>
    obtain ⟨operating, requests⟩ := takes
    have own := State.requestOwnedInUse_cons requests
    have attached : s.links.count Option.isSome = (List.finRange 64).countP fun l => (s.entry l).isSome :=
      Table.count_eq _ _
    refine ⟨by omega, (takes_next (f := takeStatus) ⟨operating, requests⟩ is).trans ?_⟩
    rw [← attached, own, takeStatus, empty]
    rfl
  case refused =>
    exact takes_badForm (f := takeStatus) takes is (by simp [takeStatus, filled])

end Sys2Proof.Machine
end

section
/-! PROOFS. The step at each shape of the command queue: a command at its front is run on the queue's rest, and the empty
queue idles (notes/assumptions/3.md, notes/assumptions/14.md). -/

namespace Sys2Proof.Machine

open Sys2Proof

variable {s : State} {c : Instr} {rest : List Instr}

/-! ## The step on a queue that holds a command, and on an empty one -/

theorem step_of_pending_cons (front : s.pending = c :: rest) : step s = exec c { s with pending := rest } := by
  simp only [step, front]

/-- Beyond idling, the step ends a start-up in progress (the model's choice, notes/assumptions/14.md). -/
theorem step_of_pending_nil (idle : s.pending = []) : step s = .next { s with starting := false } := by
  simp only [step, idle]

/-- Settles O1: the queue holds a command or is empty, and the step has one equation for each. -/
theorem stepRunsFrontCommand : Obligations.StepRunsFrontCommand := by
  unfold Obligations.StepRunsFrontCommand
  exact ⟨fun _ _ _ front => step_of_pending_cons front, fun _ idle => step_of_pending_nil idle⟩

end Sys2Proof.Machine
end
